-- ==== Sys2Proof/Word.lean ====
section
/-! DEFINITION. The words and the plain data types of the spec (R7, R9, R12): what a pixel, a symbol, a frame, a
transport kind and a peripheral's answer are. All values are unsigned (R9). -/

namespace Sys2Proof

/-- `uint8` (R12). -/
abbrev Byte := BitVec 8

/-- A command word (R80). -/
abbrev Word16 := BitVec 16

/-- A 32-bit field or register (R22, R27). -/
abbrev Word32 := BitVec 32

/-- One of the four channels of a pixel (R7, R12). -/
inductive Channel where
  | r | g | b | w
deriving DecidableEq, Repr

/-- A pixel: four channel values, named by channel (R12, R133). -/
structure Pixel where
  r : Byte
  g : Byte
  b : Byte
  w : Byte
deriving DecidableEq, Repr

/-- A strip: a sequence of pixels, first sent first (R12). -/
abbrev Strip := List Pixel

/-- The BitEncoder's symbols (R12, R110). -/
inductive Sym where
  | zero | one
deriving DecidableEq, Repr

/-- The frame alphabet (R131): IDLE is one symbol period of idle line. -/
inductive FrameSym where
  | zero | one | idle
deriving DecidableEq, Repr

/-- A frame: a sequence of frame symbols (R130). -/
abbrev Frame := List FrameSym

/-- Bit order of the BitEncoder (R12, R111). -/
inductive BitOrder where
  | msb | lsb
deriving DecidableEq, Repr

/-- Transport kind (R7, R12). -/
inductive Kind where
  | spi | pwm | pcm
deriving DecidableEq, Repr

/-- The peripheral's answer to a physical write (R180): all units sent, or failure after `k` whole units. -/
inductive PhysAnswer where
  | ok
  | fail (k : Nat)
deriving DecidableEq, Repr, Inhabited

end Sys2Proof
end

