-- ==== Sys2Proof/Syntax.lean ====
section
/-! DEFINITION. The instructions: one constructor for each row of spec/opcode_table.json. -/

namespace Sys2Proof

/-- The rows of the opcode table. Eight are commands a word selects (R81), three are the internal TRANSMIT rows that
run as the stages of RENDER (R86), and the last stands for every word no command row matches (R84, R85). -/
inductive Instr where
  /-- NOP (R225). -/
  | nop
  /-- INIT (R203): its record is on the config port. -/
  | init
  /-- RENDER, the issue step (R210): its strip is on the pixel port. -/
  | render
  /-- SHUTDOWN (R220). -/
  | shutdown
  /-- T_ENCODE (R115): IMM8 and BO. -/
  | tEncode (imm8 : Byte) (bo : BitOrder)
  /-- T_SERIALIZE (R137): its strip is on the pixel port. -/
  | tSerialize
  /-- T_INVERT (R153): INV. -/
  | tInvert (inv : Bool)
  /-- T_MAP (R185). -/
  | tMap
  /-- TRANSMIT.SPI (R160, R162-R165): the Encoding and Transmitting stages of a render over SPI. -/
  | transmitSpi
  /-- TRANSMIT.PWM (R160, R166, R167): the same over PWM. -/
  | transmitPwm
  /-- TRANSMIT.PCM (R160, R168, R169): the same over PCM. -/
  | transmitPcm
  /-- Every word no command row matches (R84, R230). -/
  | illegal (word : Word16)
deriving DecidableEq, Repr

end Sys2Proof
end

