-- ==== Sys2Proof/WellFormed.lean ====
section
/-! DEFINITION. Which terms of `Instr` are instructions of the spec. The fields of a command are typed, so the one
check is that `illegal w` holds a word that R84 calls illegal. -/

namespace Sys2Proof

/-- The fields of a command word (R80). -/
structure Fields where
  op : BitVec 4
  bo : BitVec 1
  inv : BitVec 1
  rsv : BitVec 2
  imm8 : Byte
deriving DecidableEq, Repr

/-- OP [3:0], BO [4], INV [5], RSV [7:6], IMM8 [15:8] (R80). -/
def fieldsOf (w : Word16) : Fields where
  op := w.extractLsb' 0 4
  bo := w.extractLsb' 4 1
  inv := w.extractLsb' 5 1
  rsv := w.extractLsb' 6 2
  imm8 := w.extractLsb' 8 8

/-- The fields that R82 marks 0 for a legal `OP` are zero: T_ENCODE has the operands BO and IMM8, T_INVERT the operand
INV, every other command none; RSV is zero in all (R83). -/
def zeroFieldsOk (f : Fields) : Bool :=
  f.rsv == 0 &&
    (if f.op = 4 then f.inv == 0
     else if f.op = 6 then f.bo == 0 && f.imm8 == 0
     else f.bo == 0 && f.inv == 0 && f.imm8 == 0)

/-- A word is legal iff its OP is 0x0 .. 0x7 and the fields marked 0 are zero (R84). -/
def legalWord (w : Word16) : Bool :=
  decide ((fieldsOf w).op.toNat < 8) && zeroFieldsOk (fieldsOf w)

/-- `illegal w` stands only for a word that is not legal (R84); every other term is well formed. -/
def Instr.wellFormed : Instr → Bool
  | .illegal w => !legalWord w
  | .nop | .init | .render | .shutdown => true
  | .tEncode _ _ | .tSerialize | .tInvert _ | .tMap => true
  | .transmitSpi | .transmitPwm | .transmitPcm => true

end Sys2Proof
end

