-- ==== Sys2Proof/Decode.lean ====
section
/-! DEFINITION. The decoder (R84, R85), total on every 16-bit word, and the encoder (R80-R82). -/

namespace Sys2Proof

/-- `BitOrder` code of R90, in the BO field: MSB 0, LSB 1. -/
def bitOrderOfBit (b : BitVec 1) : BitOrder := if b = 0 then .msb else .lsb

/-- `BitOrder` code of R90. -/
def bitOfBitOrder : BitOrder → BitVec 1
  | .msb => 0
  | .lsb => 1

/-- A row of the match and mask table (R85): word `w` is the row's command iff `w AND mask = match`. -/
def matchesRow (w mask value : Word16) : Bool := w &&& mask == value

/-- Decoding, by the match and mask rows of R85; a word that no row matches is illegal (R84). -/
def decode (w : Word16) : Instr :=
  if matchesRow w 0xFFFF 0x0000 then .nop
  else if matchesRow w 0xFFFF 0x0001 then .init
  else if matchesRow w 0xFFFF 0x0002 then .render
  else if matchesRow w 0xFFFF 0x0003 then .shutdown
  else if matchesRow w 0x00EF 0x0004 then .tEncode (w.extractLsb' 8 8) (bitOrderOfBit (w.extractLsb' 4 1))
  else if matchesRow w 0xFFFF 0x0005 then .tSerialize
  else if matchesRow w 0xFFDF 0x0006 then .tInvert (w.getLsbD 5)
  else if matchesRow w 0xFFFF 0x0007 then .tMap
  else .illegal w

/-- The command word with the given fields, RSV zero (R80). -/
def wordOfFields (op : BitVec 4) (bo inv : BitVec 1) (imm8 : Byte) : Word16 :=
  imm8 ++ 0#2 ++ inv ++ bo ++ op

/-- The word of an instruction, by the OP values of R81 and the field use of R82; the internal TRANSMIT rows have
none (R86). -/
def encode : Instr → Option Word16
  | .nop => some (wordOfFields 0 0 0 0)
  | .init => some (wordOfFields 1 0 0 0)
  | .render => some (wordOfFields 2 0 0 0)
  | .shutdown => some (wordOfFields 3 0 0 0)
  | .tEncode v bo => some (wordOfFields 4 (bitOfBitOrder bo) 0 v)
  | .tSerialize => some (wordOfFields 5 0 0 0)
  | .tInvert inv => some (wordOfFields 6 0 (BitVec.ofBool inv) 0)
  | .tMap => some (wordOfFields 7 0 0 0)
  | .transmitSpi => none
  | .transmitPwm => none
  | .transmitPcm => none
  | .illegal w => some w

/-- The decoder on the opcode table's numbering: every row with a word has 16 bits, one word (R80). -/
def decodeTableWord (nbits w : Nat) : Option Instr :=
  if nbits = 16 ∧ w < 2 ^ 16 then some (decode (BitVec.ofNat 16 w)) else none

end Sys2Proof
end

