-- ==== Sys2Proof/Config.lean ====
section
/-! DEFINITION. What the spec fixes for every implementation (R7) and what it leaves open (R8): the open values that
are not fields of the config record are opaque constants, so no proof can see what they are. -/

namespace Sys2Proof

/-- `CHANNELS` (R7). -/
def Config.channels : Nat := 4

/-- `CH_BITS` (R7). -/
def Config.chBits : Nat := 8

/-- `SYMS_PER_PIXEL` = CHANNELS × CH_BITS (R7). -/
def Config.symsPerPixel : Nat := Config.channels * Config.chBits

/-- `PIN_VALID` (R8, D29): OPEN. Which (kind, pin) pairs are legal where the environment supplies no list
(`State.pinTable`). Log entry 1. -/
opaque Config.pinValid : Kind → Word32 → Bool

/-- `CLAIMED_ELSEWHERE` (R8, R206, I9): a free value, one for each draw number; a draw per INIT. Log entry 2. -/
opaque Config.claimedElsewhere : Nat → Bool

/-- `PHYS_OUTCOME` (R8, R180, I10): a free value, one for each draw number; the bound `k <= n` of R180 is applied by
`boundedAnswer`. Log entry 3. -/
opaque Config.physOutcome : Nat → PhysAnswer

/-- A positive rational number `num / den`: the number type of the open timing parameters, of which R8 says only
'positive'. DESIGN CHOICE, log entry 17. -/
structure PosRat where
  num : PNat
  den : PNat
deriving DecidableEq, Repr, Inhabited

/-- The number itself. -/
def PosRat.val (q : PosRat) : ℚ := (q.num : ℚ) / (q.den : ℚ)

/-- `SPI_CLOCK_HZ` (R8, R281): OPEN; no rule reads it. A positive rational number of Hz: DESIGN CHOICE, log entry 17. -/
opaque Config.spiClockHz : PosRat

/-- `PWM_CLOCK_HZ` (R8, R281): OPEN; no rule reads it. A positive rational number of Hz: DESIGN CHOICE, log entry 17. -/
opaque Config.pwmClockHz : PosRat

/-- `PCM_SAMPLE_HZ` (R8, R168, R281): OPEN; no rule reads it. A positive rational number of Hz, so every rational rate
PCM_SPS / T_SYM is admitted: DESIGN CHOICE, log entry 17. -/
opaque Config.pcmSampleHz : PosRat

/-- `TIMEOUT_SPI`, `TIMEOUT_PWM`, `TIMEOUT_PCM` (R8, R251): OPEN; no rule reads them, a timeout shows as a `fail(k)`
answer. A positive rational number of seconds: DESIGN CHOICE, log entry 17. -/
opaque Config.timeout : Kind → PosRat

end Sys2Proof
end

