-- ==== Sys2Proof/Machine/State.lean ====
section
/-! DEFINITION. The state of one driver instance (R20), the ports and the arguments of the step relation (R20, R61), the
host side, and the reasons a step can stop. -/

namespace Sys2Proof.Machine

/-- The config record, and the configuration register file `CFG` when loaded (R22), each field at its width. The 16
entries of a PCM sequence are R96's. -/
structure ConfigRecord where
  kind : BitVec 2
  pin : Word32
  invert : Bool
  ledCount : Word32
  order : BitVec 8
  capacity : Word32
  bitOrder : BitOrder
  leadIdle : Word32
  trailIdle : Word32
  spiBps : BitVec 5
  spiPatOne : BitVec 16
  spiPatZero : BitVec 16
  spiIdleBit : Bool
  pwmWordBytes : BitVec 3
  pwmRange : Word32
  pwmDutyOne : Word32
  pwmDutyZero : Word32
  pwmDutyIdle : Word32
  pcmSps : BitVec 5
  pcmSampleBytes : BitVec 3
  pcmSeqOne : Vector Word32 16
  pcmSeqZero : Vector Word32 16
  pcmSeqIdle : Vector Word32 16
deriving DecidableEq, Repr

/-- `STATE` (R25). -/
inductive DriverState where
  | off | idle | encoding | transmitting
deriving DecidableEq, Repr

/-- `held(kind, pin)` (R30). -/
structure Handle where
  kind : Kind
  pin : Word32
deriving DecidableEq, Repr

/-- What the Encoding stage adds to `PENDING` (R31, R211). -/
structure Encoded where
  frame : Frame
  bytes : List Byte
  nbytes : Nat
deriving DecidableEq, Repr

/-- `PENDING` (R31): the strip snapshot from issue (R210), the rest from the Encoding stage (R211). -/
structure Pending where
  strip : Strip
  encoded : Option Encoded
deriving DecidableEq, Repr

/-- `TXBUF` while it exists (R60): indices below `size`, and the bytes written so far, addresses strictly rising. An
index not listed holds a byte the spec does not specify (R203): it has no value here. Log entry 5. -/
structure Memory where
  size : Nat
  cells : List Host.Cell
deriving DecidableEq, Repr

/-- `TEST_REG` (R35). -/
inductive TestReg where
  | none
  | syms (s : Frame)
  | units (kind : Kind) (b : List Byte)
deriving DecidableEq, Repr

/-- The outcome field of a `WIRE` entry (R36). -/
inductive WireOutcome where
  | ok | fail
deriving DecidableEq, Repr

/-- One entry of `WIRE` (R36, R180). -/
structure WireEntry where
  kind : Kind
  sent : List Byte
  outcome : WireOutcome
deriving DecidableEq, Repr

/-- The registers a host may read (R29, R71). -/
inductive HostReg where
  | status | result | errInfo | testReg
deriving DecidableEq, Repr

/-- What a host read returns; a symbol sequence is shown as codes (R87). -/
inductive HostValue where
  | status (v : Word16)
  | result (v : Byte)
  | errInfo (v : Word32)
  | noTest
  | symCodes (v : List (BitVec 2))
  | units (kind : Kind) (b : List Byte)
deriving DecidableEq, Repr

/-- What a host thread does, one thing at a time (R6, R72, R200). The two answers belong to the peripheral; they stand
in the thread's program where the directives `.claimed` and `.phys` of R97 put them. -/
inductive HostAct where
  /-- Issue a command word (R200). -/
  | issue (word : Word16)
  /-- Load the config port (R70; `.config` of R97). -/
  | loadConfig (r : ConfigRecord)
  /-- Load the pixel port (R69; `.strip` of R97). -/
  | loadStrip (s : Strip)
  /-- Load the pixel port through a byte-wide port (R69). -/
  | loadStripBytes (b : List Byte)
  /-- Fix the answer to the next INIT's claim (R8, R206; `.claimed` of R97). Log entry 2. -/
  | answerClaim (claimed : Bool)
  /-- Fix the answer to the next physical write (R180; `.phys` of R97). Log entry 3. -/
  | answerWrite (a : PhysAnswer)
  /-- Read a register (R29). -/
  | read (r : HostReg)
  /-- Write STATUS, with no effect (R29). -/
  | writeStatus (v : Word16)
deriving DecidableEq, Repr

/-- The moves of the world, in the order they happen (R72, R200). -/
inductive HostEvent where
  /-- A host thread does its next thing; while its command has not completed it does nothing (R72, R200). -/
  | act (thread : Nat) (a : HostAct)
  /-- The driver takes its next internal step before any further host event (R200). -/
  | driver
deriving DecidableEq, Repr

/-- A completed command as its issuer sees it (R200, R231). -/
structure Completion where
  thread : Nat
  result : Byte
  errInfo : Word32
deriving DecidableEq, Repr

/-- The state of one driver instance (R20), its ports (R61), the arguments of its step relation (R20) and the host
side (R6). -/
structure State where
  /-- `CFG` (R22, R23). -/
  cfg : Option ConfigRecord
  /-- `STATE` (R25). -/
  drv : DriverState
  /-- `RESULT` (R26). -/
  result : Byte
  /-- `ERR_INFO` (R27). -/
  errInfo : Word32
  /-- `WARN_CAP` (R28). -/
  warnCap : Bool
  /-- `HANDLE` (R30). -/
  handle : Option Handle
  /-- `PENDING` (R31). -/
  pending : Option Pending
  /-- `TXBUF` (R34, R60); `none` is absent. -/
  txbuf : Option Memory
  /-- `TEST_REG` (R35). -/
  testReg : TestReg
  /-- `FAULT_CONCURRENT` (R32). -/
  faultConcurrent : Bool
  /-- `REFUSED` (R33). -/
  refused : Bool
  /-- `WIRE` (R36). -/
  wire : List WireEntry
  /-- `LAST_GOOD` (R37). -/
  lastGood : Option (Strip × List Byte)
  /-- The config port (R61, R70). -/
  configPort : ConfigRecord
  /-- The pixel port (R61, R69). -/
  pixelPort : Strip
  /-- `PIN_VALID` as the environment supplies it (R8, R20): the legal pairs, or none for `Config.pinValid`. No step
  writes it. Log entry 1. -/
  pinTable : Option (List (Kind × Word32))
  /-- `CLAIMED_ELSEWHERE` for the next INIT (R20, R206), or none for the free value. Log entry 2. -/
  claimAnswer : Option Bool
  /-- `PHYS_OUTCOME` for the next physical write (R20, R180), or none for the free value. Log entry 3. -/
  writeAnswer : Option PhysAnswer
  /-- The number of the next free value (the model's own). Log entry 4. -/
  draws : Nat
  /-- The host events still to come (the model's own, R6, R200). Log entry 6. -/
  agenda : List HostEvent
  /-- The thread whose command word was accepted last (the model's own, R200). Log entry 24. -/
  issuer : Nat
  /-- The thread blocked in the RENDER in flight (the model's own, R200). Log entry 7. -/
  renderThread : Option Nat
  /-- Threads whose command never completes (the model's own, R201). Log entry 8. -/
  hung : List Nat
  /-- The results of the completed commands, oldest first (the model's own, R231). Log entry 24. -/
  completions : List Completion
  /-- What the last host read returned (the model's own, R29). Log entry 16. -/
  lastRead : Option HostValue
deriving DecidableEq, Repr

/-- Why the machine stops. Every constructor names a state that no run from reset reaches (`Safety.Consistent` rules it
out): the model stops there rather than invent what a rule would read. Log entry 12. -/
inductive Fault where
  /-- Raised by T_SERIALIZE, T_MAP, RENDER, the stages and the choice of a stage where a rule would read CFG and there
  is none, or its KIND is the reserved code (R23, R89). Safe. -/
  | noConfig
  /-- Raised by the stages where PENDING lacks what they read (R31). Safe. -/
  | noPending
  /-- Raised by the stages where TXBUF does not exist (R60). Safe. -/
  | noBuffer
  /-- Raised by the Encoding stage for an index outside TXBUF (R60, R68). Safe. -/
  | bufferRange
  /-- Raised by the Transmitting stage where TXBUF holds no byte at an index of the frame (R60, R177). Safe. -/
  | bufferUnwritten
deriving DecidableEq, Repr

/-- Why the model has no meaning to give. -/
inductive Refusal where
  /-- Raised by `exec` for an instruction that has no meaning yet. Safe. -/
  | notModelled (mnemonic : String)
  /-- Raised by a TRANSMIT row in a state where no stage of its kind is enabled: no command word selects it (R86), and
  `step` never runs it there. Safe. Log entry 13. -/
  | stageNotEnabled
deriving DecidableEq, Repr

/-- The outcome of an instruction or a step. -/
abbrev Outcome := Host.Outcome State Fault Refusal

/-- The all-zero config record: what the config port holds before anything is loaded. Log entry 10. -/
def ConfigRecord.zero : ConfigRecord where
  kind := 0
  pin := 0
  invert := false
  ledCount := 0
  order := 0
  capacity := 0
  bitOrder := .msb
  leadIdle := 0
  trailIdle := 0
  spiBps := 0
  spiPatOne := 0
  spiPatZero := 0
  spiIdleBit := false
  pwmWordBytes := 0
  pwmRange := 0
  pwmDutyOne := 0
  pwmDutyZero := 0
  pwmDutyIdle := 0
  pcmSps := 0
  pcmSampleBytes := 0
  pcmSeqOne := Vector.replicate 16 0
  pcmSeqZero := Vector.replicate 16 0
  pcmSeqIdle := Vector.replicate 16 0

/-- The machine right after reset (R270): each field of R20 at the reset value its rule gives, nothing asked of the
block yet, no answer and no pin list supplied. -/
def State.reset : State where
  cfg := none
  drv := .off
  result := 0x00
  errInfo := 0
  warnCap := false
  handle := none
  pending := none
  txbuf := none
  testReg := .none
  faultConcurrent := false
  refused := false
  wire := []
  lastGood := none
  configPort := ConfigRecord.zero
  pixelPort := []
  pinTable := none
  claimAnswer := none
  writeAnswer := none
  draws := 0
  agenda := []
  issuer := 0
  renderThread := none
  hung := []
  completions := []
  lastRead := none

end Sys2Proof.Machine
end

