-- ==== Sys2Proof/Machine/Operands.lean ====
section
/-! DEFINITION. The operand forms: the coded fields of the config record (R88-R96), the channels of a pixel (R133), and
the legality of a pin (R8). -/

namespace Sys2Proof.Machine

/-- `ceil_div(a, b)`, the least `q` with `q × b >= a`, for `b >= 1` (R10). -/
def ceilDiv (a b : Nat) : Nat := (a + b - 1) / b

/-- `Channel` code (R88): R 0, G 1, B 2, W 3. -/
def channelOfCode (c : BitVec 2) : Channel :=
  match c.toNat with
  | 0 => .r
  | 1 => .g
  | 2 => .b
  | _ => .w

/-- `ORDER[j]`: the channel named by bits [2j+1:2j] (R88). -/
def orderAt (order : BitVec 8) (j : Nat) : Channel := channelOfCode (order.extractLsb' (2 * j) 2)

/-- The four channels in the order they are emitted (R88). -/
def orderChannels (order : BitVec 8) : List Channel := (List.range Config.channels).map (orderAt order)

/-- `perm(order)`: the four codes are distinct (R88, R132). -/
def perm (order : BitVec 8) : Bool := decide (orderChannels order).Nodup

/-- `chan(px, c)` (R133). -/
def chan (px : Pixel) : Channel → Byte
  | .r => px.r
  | .g => px.g
  | .b => px.b
  | .w => px.w

/-- The bytes of a pixel on a byte-wide pixel port: R, G, B, W, whatever `ORDER` is (R69). -/
def pixelBytes (px : Pixel) : List Byte := [px.r, px.g, px.b, px.w]

/-- A strip on a byte-wide pixel port: pixel `p` at bytes 4p .. 4p+3 (R69). -/
def portBytes (s : Strip) : List Byte := s.flatMap pixelBytes

/-- The strip that the bytes on a byte-wide pixel port carry (R69); none where they are not whole pixels, on
which R69 is silent (DESIGN CHOICE, log entry 27). -/
def stripOfPort : List Byte → Option Strip
  | [] => some []
  | r :: g :: b :: w :: rest => (stripOfPort rest).map fun s => { r := r, g := g, b := b, w := w } :: s
  | _ => none

/-- `Kind` code (R89): SPI 0, PWM 1, PCM 2, code 3 reserved. -/
def kindOfCode (c : BitVec 2) : Option Kind :=
  match c.toNat with
  | 0 => some .spi
  | 1 => some .pwm
  | 2 => some .pcm
  | _ => none

/-- `patbits(P)` (R94): the field's bits SPI_BPS-1 down to 0, in time order. -/
def patBits (bps : Nat) (p : BitVec 16) : List Bool :=
  (List.range bps).map fun t => p.getLsbD (bps - 1 - t)

/-- `seq(X)` (R96): entries 0 .. PCM_SPS-1. -/
def seqOf (sps : Nat) (x : Vector Word32 16) : List Word32 := x.toList.take sps

/-- The bytes of one unit of a kind (R67, R95). -/
def unitWidth (k : Kind) (c : ConfigRecord) : Nat :=
  match k with
  | .spi => 1
  | .pwm => c.pwmWordBytes.toNat
  | .pcm => c.pcmSampleBytes.toNat

/-- `FrameSym` code (R87): ZERO 0, ONE 1, IDLE 2. -/
def frameSymCode : FrameSym → BitVec 2
  | .zero => 0
  | .one => 1
  | .idle => 2

/-- A BitEncoder symbol as a frame symbol (R131). -/
def symToFrame : Sym → FrameSym
  | .zero => .zero
  | .one => .one

/-- `PIN_VALID(kind, pin)` (R8): the environment's list where it supplies one, else the open predicate. Log entry 1. -/
def State.pinOk (s : State) (k : Kind) (pin : Word32) : Bool :=
  match s.pinTable with
  | some l => decide ((k, pin) ∈ l)
  | none => Config.pinValid k pin

end Sys2Proof.Machine
end

