-- ==== Sys2Proof/Machine/Flags.lean ====
section
/-! DEFINITION. What a command leaves in RESULT and ERR_INFO (R91-R93), and the STATUS view (R29). The block has no
condition codes (R38). -/

namespace Sys2Proof.Machine

/-- Sub-codes of CONFIGURATION_ERROR (R92). -/
inductive ConfigSub where
  | channelOrder | transport | pin | parameter
deriving DecidableEq, Repr

/-- Sub-codes of ILLEGAL_COMMAND (R92). -/
inductive IllegalSub where
  | reservedOp | nonzeroField
deriving DecidableEq, Repr

/-- How a command ends (R91, R240). -/
inductive CmdResult where
  | ok
  | configurationError (sub : ConfigSub)
  | bufferOverflow
  | resourceConflict
  | transportError
  | illegalCommand (sub : IllegalSub)
  | illegalState
deriving DecidableEq, Repr

/-- `RESULT[3:0]` (R91). -/
def CmdResult.code : CmdResult → BitVec 4
  | .ok => 0
  | .configurationError _ => 1
  | .bufferOverflow => 2
  | .resourceConflict => 3
  | .transportError => 4
  | .illegalCommand _ => 5
  | .illegalState => 6

/-- `RESULT[7:4]` (R92); 0 where the table gives none. -/
def CmdResult.sub : CmdResult → BitVec 4
  | .configurationError .channelOrder => 1
  | .configurationError .transport => 2
  | .configurationError .pin => 3
  | .configurationError .parameter => 4
  | .illegalCommand .reservedOp => 1
  | .illegalCommand .nonzeroField => 2
  | .ok | .bufferOverflow | .resourceConflict | .transportError | .illegalState => 0

/-- The value of `RESULT` (R26). -/
def CmdResult.bits (r : CmdResult) : Byte := r.sub ++ r.code

/-- `ERR_INFO` of BUFFER_OVERFLOW_ERROR: `min(nbytes, 2^32 - 1)` (R93). -/
def overflowInfo (nbytes : Nat) : Word32 := BitVec.ofNat 32 (min nbytes (2 ^ 32 - 1))

/-- `ERR_INFO` of ILLEGAL_COMMAND and ILLEGAL_STATE: the command word zero-extended (R93). -/
def wordInfo (w : Word16) : Word32 := w.setWidth 32

/-- The command word of an instruction that a word selects; the TRANSMIT rows have none (R86) and never ask. -/
def commandWord (i : Instr) : Word16 := (encode i).getD 0

/-- The sub-code of an illegal word (R84): RESERVED_OP when OP is 0x8 .. 0xF, whatever the other fields. -/
def illegalSub (w : Word16) : IllegalSub :=
  if 8 ≤ (fieldsOf w).op.toNat then .reservedOp else .nonzeroField

/-- `STATE` as bits (R25). -/
def DriverState.code : DriverState → BitVec 2
  | .off => 0
  | .idle => 1
  | .encoding => 2
  | .transmitting => 3

/-- The `STATUS` view (R29): [1:0] STATE, [2] WARN_CAP, [3] FAULT_CONCURRENT, [4] handle held, [7:5] zero,
[15:8] RESULT. -/
def State.status (s : State) : Word16 :=
  s.result ++ 0#3 ++ BitVec.ofBool s.handle.isSome ++ BitVec.ofBool s.faultConcurrent ++
    BitVec.ofBool s.warnCap ++ s.drv.code

end Sys2Proof.Machine
end

