-- ==== Sys2Proof/Machine/Ops.lean ====
section
/-! DEFINITION. The named operations over the transmit buffer (R62, R63) and the state, and the shared operations of the
commands: the concurrency fault (R201), the completion and the error entry (R200, R243), the draws (R180, R206), the
physical write (R180) and the commit (R216). -/

namespace Sys2Proof.Machine

/-! ## The transmit buffer -/

/-- The byte listed at an index. -/
def lookupCell : List Host.Cell → Nat → Option Byte
  | [], _ => none
  | c :: cs, i => if c.1 = i then some c.2 else lookupCell cs i

/-- Put a byte at an index, keeping the addresses strictly rising. -/
def insertCell (i : Nat) (v : Byte) : List Host.Cell → List Host.Cell
  | [] => [(i, v)]
  | c :: cs =>
    if i < c.1 then (i, v) :: c :: cs
    else if c.1 = i then (i, v) :: cs
    else c :: insertCell i v cs

/-- Addresses strictly rising from `lo` on and below `hi`. -/
def cellsOk (lo hi : Nat) : List Host.Cell → Bool
  | [] => true
  | c :: cs => decide (lo ≤ c.1 ∧ c.1 < hi) && cellsOk (c.1 + 1) hi cs

/-- The canonical form of the buffer: strictly rising indices, all inside it (R60). No entry can equal what an
unlisted index reads as, since that has no value. -/
def Memory.wf (m : Memory) : Bool := cellsOk 0 m.size m.cells

/-- The byte at an index; none outside the buffer, and none where the spec specifies no byte (R203). -/
def Memory.byte (m : Memory) (i : Nat) : Option Byte := if i < m.size then lookupCell m.cells i else none

/-- Write one byte; none outside the buffer (R60). -/
def Memory.setByte (m : Memory) (i : Nat) (v : Byte) : Option Memory :=
  if i < m.size then some { m with cells := insertCell i v m.cells } else none

/-- Write bytes at `i`, `i+1`, … -/
def Memory.putBytes (m : Memory) (i : Nat) : List Byte → Option Memory
  | [] => some m
  | b :: bs => (m.setByte i b).bind fun m' => m'.putBytes (i + 1) bs

/-- Byte `k` of a value: bits [8k+7:8k] (R63). -/
def byteOf (v k : Nat) : Byte := BitVec.ofNat 8 (v >>> (8 * k))

/-- The `n` bytes of a value, little-endian (R63). -/
def leBytes (n v : Nat) : List Byte := (List.range n).map (byteOf v)

/-- `MemWrite(i, n, v)` (R11, R63). -/
def Memory.memWrite (m : Memory) (i n v : Nat) : Option Memory := m.putBytes i (leBytes n v)

/-- The loop of the Encoding stage, `MemWrite(j, 1, b[j])` for each byte from index `i` on (R177, R211). -/
def Memory.fill (m : Memory) (i : Nat) : List Byte → Option Memory
  | [] => some m
  | b :: bs => (m.memWrite i 1 b.toNat).bind fun m' => m'.fill (i + 1) bs

/-- `MemRead(i, n)`: the sum of `TXBUF[i+k] << 8k` (R11, R63). -/
def Memory.memRead (m : Memory) (i : Nat) : Nat → Option Nat
  | 0 => some 0
  | n + 1 => (m.byte i).bind fun b => (m.memRead (i + 1) n).map fun r => b.toNat + (r <<< 8)

/-- The `n` bytes from index `i` on, as the physical write reads them (R60); none where an index holds no byte. -/
def Memory.readBytes (m : Memory) (i : Nat) : Nat → Option (List Byte)
  | 0 => some []
  | n + 1 => (m.byte i).bind fun b => (m.readBytes (i + 1) n).map fun bs => b :: bs

/-- The byte of TXBUF at an index (R60): none where there is no buffer, no such index or no specified byte. -/
def State.bufferByte (s : State) (i : Nat) : Option Byte := s.txbuf.bind fun m => m.byte i

/-! ## Completion, error entry and the concurrency fault -/

/-- A render is in flight: `STATE` is ENCODING or TRANSMITTING (R201). -/
def State.busy (s : State) : Bool :=
  match s.drv with
  | .off | .idle => false
  | .encoding | .transmitting => true

/-- A command of thread `t` completes: RESULT and ERR_INFO are written (R200, R26, R27) and its issuer sees them
(R231). -/
def State.complete (s : State) (t : Nat) (r : CmdResult) (info : Word32) : State :=
  { s with
    result := r.bits
    errInfo := info
    completions := s.completions ++ [{ thread := t, result := r.bits, errInfo := info }] }

/-- The command being executed completes with OK and ERR_INFO 0 (R93). -/
def State.completeOk (s : State) : State := s.complete s.issuer .ok 0

/-- `raise E(info)` (R11, R243): the command being executed ends with an error; RESULT and ERR_INFO are written and
nothing else of the block changes. There is no vector, handler, mode change or mask. -/
def State.raise (s : State) (e : CmdResult) (info : Word32) : Outcome := .next (s.complete s.issuer e info)

/-- ILLEGAL_STATE with the command word (R93, R205, R210, R226). -/
def State.raiseIllegalState (s : State) (i : Instr) : Outcome := s.raise .illegalState (wordInfo (commandWord i))

/-- The concurrency fault (R201): FAULT_CONCURRENT is set and the command never completes, so its issuer stays
blocked. Log entry 8. -/
def State.markConcurrent (s : State) : State :=
  { s with faultConcurrent := true, hung := s.issuer :: s.hung }

/-- `refuse(reason)` (R11, R33): the sticky REFUSED mark and no other change of the block; the command does not
complete. Log entry 9. -/
def State.markRefused (s : State) : State :=
  { s with refused := true, hung := s.issuer :: s.hung }

/-- What every command does first (R200, R201): while a render is in flight it is not decoded and not executed. -/
def State.whenFree (s : State) (r : Outcome) : Outcome := if s.busy then .next s.markConcurrent else r

/-- The state requirement of the test-mode commands (R226). -/
def State.testMode (s : State) (i : Instr) (r : Outcome) : Outcome :=
  s.whenFree (if s.drv = .off then s.raiseIllegalState i else r)

/-- `TEST_REG <- v`, then OK (R115, R137, R153, R185). -/
def State.finishTest (s : State) (v : TestReg) : State := { s with testReg := v }.completeOk

/-! ## The handle and the configuration -/

/-- What a successful INIT writes before it completes (R203). -/
def State.openDriver (s : State) (k : Kind) (c : ConfigRecord) (warn : Bool) : State :=
  { s with
    handle := some { kind := k, pin := c.pin }
    cfg := some c
    txbuf := some { size := c.capacity.toNat, cells := [] }
    warnCap := warn
    testReg := .none
    drv := .idle }

/-- What SHUTDOWN writes in IDLE before it completes (R220). -/
def State.closeDriver (s : State) : State :=
  { s with
    handle := none
    cfg := none
    txbuf := none
    testReg := .none
    warnCap := false
    drv := .off }

/-! ## The stages of a render -/

/-- RENDER's issue step (R210): the strip is pending, and its issuer is blocked until the render completes. -/
def State.startRender (s : State) (strip : Strip) : State :=
  { s with
    pending := some { strip := strip, encoded := none }
    drv := .encoding
    renderThread := some s.issuer }

/-- The Encoding stage's success (R211): the frame is in TXBUF and pending. -/
def State.startTransmit (s : State) (p : Pending) (e : Encoded) (m : Memory) : State :=
  { s with
    txbuf := some m
    pending := some { p with encoded := some e }
    drv := .transmitting }

/-- The end of a render (R211, R212): PENDING none, STATE IDLE, and the command completes for the thread that issued
it. -/
def State.endRender (s : State) (r : CmdResult) (info : Word32) : State :=
  { s.complete (s.renderThread.getD s.issuer) r info with
    pending := none
    drv := .idle
    renderThread := none }

/-- Commit (R216). -/
def State.commit (s : State) (strip : Strip) (b : List Byte) : State := { s with lastGood := some (strip, b) }

/-! ## The draws and the physical write -/

/-- The answer to the claim of an INIT (R206): the loaded answer, else the free value of this draw. -/
def State.claimedElsewhere (s : State) : Bool := s.claimAnswer.getD (Config.claimedElsewhere s.draws)

/-- An INIT has taken its draw, whether or not it comes to ask the peripheral (R8, R20: one draw per INIT): the loaded
answer is used up and the draw counter moves on. Log entries 2 and 4. -/
def State.afterClaim (s : State) : State := { s with claimAnswer := none, draws := s.draws + 1 }

/-- The bound of R180: a failing write of `n` units sent `0 <= k <= n` of them. Log entry 3. -/
def boundedAnswer (n : Nat) : PhysAnswer → PhysAnswer
  | .ok => .ok
  | .fail k => .fail (min k n)

/-- The answer to a physical write of `n` units (R180): the loaded answer, else the free value of this draw. -/
def State.physOutcome (s : State) (n : Nat) : PhysAnswer :=
  boundedAnswer n (s.writeAnswer.getD (Config.physOutcome s.draws))

/-- The write has been answered: its answer is used up and the draw counter moves on. -/
def State.afterWrite (s : State) : State := { s with writeAnswer := none, draws := s.draws + 1 }

/-- The bytes the peripheral put on the line (R180): all of `b`, or its first `k` units of `w` bytes. -/
def sentBytes (w : Nat) (b : List Byte) : PhysAnswer → List Byte
  | .ok => b
  | .fail k => b.take (k * w)

/-- The outcome field of the `WIRE` entry (R180). -/
def wireOutcome : PhysAnswer → WireOutcome
  | .ok => .ok
  | .fail _ => .fail

/-- `WIRE <- WIRE ++ [{kind, sent, outcome}]` (R36, R180). -/
def State.logWrite (s : State) (k : Kind) (w : Nat) (b : List Byte) (a : PhysAnswer) : State :=
  { s with wire := s.wire ++ [{ kind := k, sent := sentBytes w b a, outcome := wireOutcome a }] }

/-- `PhysWrite(kind, b)` of units of `w` bytes (R180): the answer, and the state with the write logged. -/
def State.physWrite (s : State) (k : Kind) (w : Nat) (b : List Byte) : PhysAnswer × State :=
  (s.physOutcome (b.length / w), s.afterWrite.logWrite k w b (s.physOutcome (b.length / w)))

end Sys2Proof.Machine
end

