-- ==== Sys2Proof/Machine/BitEncoder.lean ====
section
/-! DEFINITION. The BitEncoder: `encode` (R110, R111), the reference decoder of the tests (R113) and T_ENCODE (R115). -/

namespace Sys2Proof.Machine

/-- `idx(bo, i)` (R111). -/
def bitIndex : BitOrder → Nat → Nat
  | .msb, i => 7 - i
  | .lsb, i => i

/-- `encode(v, bo)` (R110). -/
def encodeChannel (v : Byte) (bo : BitOrder) : List Sym :=
  (List.range Config.chBits).map fun i => if v.getLsbD (bitIndex bo i) then .one else .zero

/-- The symbols of a channel block as frame symbols. -/
def encodeFrame (v : Byte) (bo : BitOrder) : Frame := (encodeChannel v bo).map symToFrame

/-- The sum of the reference decoder's loop over symbols `i`, `i+1`, … (R113). -/
def refDecodeFrom (bo : BitOrder) (i : Nat) : Frame → Nat
  | [] => 0
  | x :: xs => (if x = .one then 1 <<< bitIndex bo i else 0) + refDecodeFrom bo (i + 1) xs

/-- The reference decoder (R113): defined only for 8 symbols, each ZERO or ONE; none is R113's refusal. -/
def refDecode (s : Frame) (bo : BitOrder) : Option Byte :=
  if s.length = 8 ∧ FrameSym.idle ∉ s then some (BitVec.ofNat 8 (refDecodeFrom bo 0 s)) else none

/-- T_ENCODE (R115). -/
def execTEncode (imm8 : Byte) (bo : BitOrder) (s : State) : Outcome :=
  s.testMode (.tEncode imm8 bo) (.next (s.finishTest (.syms (encodeFrame imm8 bo))))

end Sys2Proof.Machine
end

