-- ==== Sys2Proof/Machine/FrameSerializer.lean ====
section
/-! DEFINITION. The FrameSerializer: serialize (R132-R134) and T_SERIALIZE (R137). -/

namespace Sys2Proof.Machine

/-- The 32 data symbols of one pixel: its four channel blocks in channel order (R134). -/
def pixelFrame (order : BitVec 8) (bo : BitOrder) (px : Pixel) : Frame :=
  (orderChannels order).flatMap fun c => encodeFrame (chan px c) bo

/-- `serialize(strip, order, bo, lead, trail)` (R134); none is ConfigurationError(CHANNEL_ORDER), its only error. -/
def serialize (strip : Strip) (order : BitVec 8) (bo : BitOrder) (lead trail : Nat) : Option Frame :=
  if perm order then
    some (List.replicate lead .idle ++ strip.flatMap (pixelFrame order bo) ++ List.replicate trail .idle)
  else none

/-- serialize as the block calls it, with the fields of `CFG` (R134). -/
def serializeCfg (c : ConfigRecord) (strip : Strip) : Option Frame :=
  serialize strip c.order c.bitOrder c.leadIdle.toNat c.trailIdle.toNat

/-- T_SERIALIZE on the snapshot of the pixel port (R137). The error branch is R134's; R135 says a run never takes it.
Log entry 11. -/
def execTSerialize (s : State) : Outcome :=
  s.testMode .tSerialize
    (match s.cfg with
     | none => .fault .noConfig
     | some c =>
       match serializeCfg c s.pixelPort with
       | none => s.raise (.configurationError .channelOrder) 0
       | some f => .next (s.finishTest (.syms f)))

end Sys2Proof.Machine
end

