-- ==== Sys2Proof/Machine/Inversion.lean ====
section
/-! DEFINITION. The InversionPolicy: apply (R150, R151) and T_INVERT (R153). -/

namespace Sys2Proof.Machine

/-- `swap` (R150): IDLE is left unchanged (R151). -/
def swapSym : FrameSym → FrameSym
  | .zero => .one
  | .one => .zero
  | .idle => .idle

/-- `apply(s, inv)` (R150). -/
def applyInversion (s : Frame) (inv : Bool) : Frame := if inv then s.map swapSym else s

/-- T_INVERT (R153). -/
def execTInvert (inv : Bool) (s : State) : Outcome :=
  s.testMode (.tInvert inv)
    (match s.testReg with
     | .syms f => .next (s.finishTest (.syms (applyInversion f inv)))
     | .none => s.raiseIllegalState (.tInvert inv)
     | .units _ _ => s.raiseIllegalState (.tInvert inv))

end Sys2Proof.Machine
end

