-- ==== Sys2Proof/Machine/Transport.lean ====
section
/-! DEFINITION. The TransportAdapter: the three mappings (R162-R170), the byte count of a strip (R175), the capacity
check (R176), T_MAP (R185), and the stages of a render (R211, R212) that the three TRANSMIT rows stand for (R86). -/

namespace Sys2Proof.Machine

/-! ## The mappings -/

/-- `spiPat` (R162). -/
def spiPat (c : ConfigRecord) : FrameSym → List Bool
  | .one => patBits c.spiBps.toNat c.spiPatOne
  | .zero => patBits c.spiBps.toNat c.spiPatZero
  | .idle => List.replicate c.spiBps.toNat c.spiIdleBit

/-- The SPI bit stream before padding (R163). -/
def spiBits (c : ConfigRecord) (s : Frame) : List Bool := s.flatMap (spiPat c)

/-- The number of padding bits (R163). -/
def spiPad (n : Nat) : Nat := (8 - n % 8) % 8

/-- The padded bit stream (R163). -/
def spiPadded (c : ConfigRecord) (s : Frame) : List Bool :=
  spiBits c s ++ List.replicate (spiPad (spiBits c s).length) c.spiIdleBit

/-- The sum of `bits[t] << (7 - t)` over the bits of one byte (R164). -/
def byteOfBits (bits : List Bool) : Byte :=
  BitVec.ofNat 8 (bits.foldl (fun acc b => 2 * acc + b.toNat) 0)

/-- SPI packing (R164): eight bits in time order to a byte, first in time at bit 7. -/
def packBits : List Bool → List Byte
  | b0 :: b1 :: b2 :: b3 :: b4 :: b5 :: b6 :: b7 :: rest =>
    byteOfBits [b0, b1, b2, b3, b4, b5, b6, b7] :: packBits rest
  | _ => []

/-- `duty` (R166). -/
def duty (c : ConfigRecord) : FrameSym → Word32
  | .one => c.pwmDutyOne
  | .zero => c.pwmDutyZero
  | .idle => c.pwmDutyIdle

/-- `pcmSeq` (R168). -/
def pcmSeq (c : ConfigRecord) : FrameSym → List Word32
  | .one => seqOf c.pcmSps.toNat c.pcmSeqOne
  | .zero => seqOf c.pcmSps.toNat c.pcmSeqZero
  | .idle => seqOf c.pcmSps.toNat c.pcmSeqIdle

/-- Units of `w` bytes laid out in order, each little-endian (R62, R63, R170). -/
def unitBytes (w : Nat) (units : List Word32) : List Byte := units.flatMap fun u => leBytes w u.toNat

/-- `bytesOf(kind, s)` (R164, R166, R168, R170). -/
def bytesOf (k : Kind) (c : ConfigRecord) (s : Frame) : List Byte :=
  match k with
  | .spi => packBits (spiPadded c s)
  | .pwm => unitBytes (unitWidth .pwm c) (s.map (duty c))
  | .pcm => unitBytes (unitWidth .pcm c) (s.flatMap (pcmSeq c))

/-- `N(L)`: the symbols of a frame of `L` pixels (R175). -/
def frameSyms (c : ConfigRecord) (len : Nat) : Nat :=
  c.leadIdle.toNat + Config.symsPerPixel * len + c.trailIdle.toNat

/-- `frameBytes(kind, L)` (R175). -/
def frameBytes (k : Kind) (c : ConfigRecord) (len : Nat) : Nat :=
  match k with
  | .spi => ceilDiv (frameSyms c len * c.spiBps.toNat) 8
  | .pwm => frameSyms c len * c.pwmWordBytes.toNat
  | .pcm => frameSyms c len * c.pcmSps.toNat * c.pcmSampleBytes.toNat

/-- The capacity check (R176): the frame does not fit. -/
def overflows (c : ConfigRecord) (b : List Byte) : Bool := decide (c.capacity.toNat < b.length)

/-- The kind of the loaded configuration (R89, R161). -/
def cfgKind (c : Option ConfigRecord) : Option Kind := c.bind fun r => kindOfCode r.kind

/-! ## T_MAP -/

/-- T_MAP on the symbols of `TEST_REG` (R185). -/
def mapSymbols (s : State) (c : ConfigRecord) (k : Kind) (f : Frame) : Outcome :=
  if overflows c (bytesOf k c f) then s.raise .bufferOverflow (overflowInfo (bytesOf k c f).length)
  else .next (s.finishTest (.units k (bytesOf k c f)))

/-- T_MAP (R185). -/
def execTMap (s : State) : Outcome :=
  s.testMode .tMap
    (match s.testReg with
     | .none => s.raiseIllegalState .tMap
     | .units _ _ => s.raiseIllegalState .tMap
     | .syms f =>
       match s.cfg with
       | none => .fault .noConfig
       | some c =>
         match kindOfCode c.kind with
         | none => .fault .noConfig
         | some k => mapSymbols s c k f)

/-! ## The stages of a render -/

/-- The frame a render sends: serialize, then the inversion of `CFG.INVERT` (R211). -/
def renderFrame (c : ConfigRecord) (strip : Strip) : Option Frame :=
  (serializeCfg c strip).map fun f => applyInversion f c.invert

/-- The buffer fill of a frame that fits (R177, R211). -/
def fillBuffer (s : State) (p : Pending) (f : Frame) (b : List Byte) : Outcome :=
  match s.txbuf with
  | none => .fault .noBuffer
  | some m =>
    match m.fill 0 b with
    | none => .fault .bufferRange
    | some m' => .next (s.startTransmit p { frame := f, bytes := b, nbytes := b.length } m')

/-- The Encoding stage (R211): map, check the capacity, then fill the buffer. The error branch of serialize ends the
render with R134's error; R135 says a run never takes it. Log entry 11. -/
def encodingStage (k : Kind) (c : ConfigRecord) (s : State) : Outcome :=
  match s.pending with
  | none => .fault .noPending
  | some p =>
    match renderFrame c p.strip with
    | none => .next (s.endRender (.configurationError .channelOrder) 0)
    | some f =>
      if overflows c (bytesOf k c f) then
        .next (s.endRender .bufferOverflow (overflowInfo (bytesOf k c f).length))
      else fillBuffer s p f (bytesOf k c f)

/-- What follows the peripheral's answer (R212): commit and OK, or TRANSPORT_ERROR with the units sent; no retry
(R181). -/
def afterAnswer (s : State) (strip : Strip) (b : List Byte) : PhysAnswer → State
  | .ok => (s.commit strip b).endRender .ok 0
  | .fail k => s.endRender .transportError (BitVec.ofNat 32 k)

/-- The physical write and what follows it (R180, R212), given the bytes read from TXBUF. -/
def sendFrame (k : Kind) (c : ConfigRecord) (s : State) (strip : Strip) (e : Encoded) (b : List Byte) : State :=
  afterAnswer (s.physWrite k (unitWidth k c) b).2 strip e.bytes (s.physWrite k (unitWidth k c) b).1

/-- The bytes of the pending frame as the physical write reads them from TXBUF (R60): indices 0 .. nbytes-1 (R62). -/
def readFrame (s : State) (e : Encoded) : Except Fault (List Byte) :=
  match s.txbuf with
  | none => .error .noBuffer
  | some m =>
    match m.readBytes 0 e.nbytes with
    | none => .error .bufferUnwritten
    | some b => .ok b

/-- The Transmitting stage (R212): the physical write sends the frame that TXBUF holds (R60), and an ok answer commits
PENDING. Log entry 21. -/
def transmittingStage (k : Kind) (c : ConfigRecord) (s : State) : Outcome :=
  match s.pending with
  | none => .fault .noPending
  | some p =>
    match p.encoded with
    | none => .fault .noPending
    | some e =>
      match readFrame s e with
      | .error r => .fault r
      | .ok b => .next (sendFrame k c s p.strip e b)

/-- The stage of `transmit` that is enabled for kind `k` (R160, R86): none unless a render is in flight and `CFG.KIND`
is `k`. Log entry 13. -/
def transmitStage (k : Kind) (s : State) : Outcome :=
  match s.cfg with
  | none => if s.busy then .fault .noConfig else .refused .stageNotEnabled
  | some c =>
    if kindOfCode c.kind = some k then
      match s.drv with
      | .off => .refused .stageNotEnabled
      | .idle => .refused .stageNotEnabled
      | .encoding => encodingStage k c s
      | .transmitting => transmittingStage k c s
    else .refused .stageNotEnabled

/-- TRANSMIT.SPI (R160, R162-R165). -/
def execTransmitSpi (s : State) : Outcome := transmitStage .spi s

/-- TRANSMIT.PWM (R160, R166, R167). -/
def execTransmitPwm (s : State) : Outcome := transmitStage .pwm s

/-- TRANSMIT.PCM (R160, R168, R169). -/
def execTransmitPcm (s : State) : Outcome := transmitStage .pcm s

end Sys2Proof.Machine
end

