-- ==== Sys2Proof/Machine/StripDriver.lean ====
section
/-! DEFINITION. The StripDriver commands: the config check (R202), INIT (R203-R206), RENDER's issue step (R210),
SHUTDOWN (R220, R221), NOP (R225) and illegal words (R230). -/

namespace Sys2Proof.Machine

/-! ## The config check -/

/-- What the config check answers (R202): the record is legal for its kind, or the sub-code and the check number. -/
inductive Verdict where
  | legal (k : Kind)
  | bad (sub : ConfigSub) (item : Nat)
deriving DecidableEq, Repr

/-- One entry list of check 14: used entries in range, the others zero (R96, R202). -/
def seqLegal (c : ConfigRecord) (x : Vector Word32 16) : Bool :=
  (x.toList.take c.pcmSps.toNat).all (fun e => decide (e.toNat < 2 ^ (8 * c.pcmSampleBytes.toNat))) &&
    (x.toList.drop c.pcmSps.toNat).all (fun e => e == 0)

/-- A width of 1, 2 or 4 bytes (checks 6 and 13 of R202). -/
def widthLegal (w : BitVec 3) : Bool := w == 1 || w == 2 || w == 4

/-- The numbered checks of R202 that apply to a kind, in order. -/
def paramChecks (k : Kind) (c : ConfigRecord) : List (Nat × Bool) :=
  (1, decide (1 ≤ c.trailIdle.toNat)) ::
    match k with
    | .spi =>
      [(2, decide (1 ≤ c.spiBps.toNat ∧ c.spiBps.toNat ≤ 16)),
       (3, decide (c.spiPatOne.toNat < 2 ^ c.spiBps.toNat)),
       (4, decide (c.spiPatZero.toNat < 2 ^ c.spiBps.toNat)),
       (5, c.spiPatOne != c.spiPatZero)]
    | .pwm =>
      [(6, widthLegal c.pwmWordBytes),
       (7, decide (1 ≤ c.pwmRange.toNat ∧ c.pwmRange.toNat < 2 ^ (8 * c.pwmWordBytes.toNat))),
       (8, decide (c.pwmDutyOne.toNat ≤ c.pwmRange.toNat)),
       (9, decide (c.pwmDutyZero.toNat ≤ c.pwmRange.toNat)),
       (10, decide (c.pwmDutyIdle.toNat ≤ c.pwmRange.toNat)),
       (11, c.pwmDutyOne != c.pwmDutyZero)]
    | .pcm =>
      [(12, decide (1 ≤ c.pcmSps.toNat ∧ c.pcmSps.toNat ≤ 16)),
       (13, widthLegal c.pcmSampleBytes),
       (14, seqLegal c c.pcmSeqOne && seqLegal c c.pcmSeqZero && seqLegal c c.pcmSeqIdle),
       (15, seqOf c.pcmSps.toNat c.pcmSeqOne != seqOf c.pcmSps.toNat c.pcmSeqZero)]

/-- The number of the first check that fails. -/
def firstFailing : List (Nat × Bool) → Option Nat
  | [] => none
  | (n, ok) :: rest => if ok then firstFailing rest else some n

/-- `cfg_ok(rec)` (R202): TRANSPORT, CHANNEL_ORDER, PIN, then the numbered checks; the first that fails decides. -/
def checkConfig (pinOk : Kind → Word32 → Bool) (c : ConfigRecord) : Verdict :=
  match kindOfCode c.kind with
  | none => .bad .transport 0
  | some k =>
    if perm c.order then
      if pinOk k c.pin then
        match firstFailing (paramChecks k c) with
        | none => .legal k
        | some n => .bad .parameter n
      else .bad .pin 0
    else .bad .channelOrder 0

/-! ## The commands -/

/-- The capacity warning (R204). -/
def capacityWarning (k : Kind) (c : ConfigRecord) : Bool :=
  decide (c.capacity.toNat < frameBytes k c c.ledCount.toNat)

/-- INIT on a legal record (R203, R206), given the draw: claim the peripheral and open the driver. -/
def claimAndOpen (s : State) (claimed : Bool) (k : Kind) (c : ConfigRecord) : Outcome :=
  if claimed then s.raise .resourceConflict 0
  else .next ((s.openDriver k c (capacityWarning k c)).completeOk)

/-- The pseudocode of INIT (R203), given the draw: in OFF, the config check (R202), then the claim (R206); elsewhere
ILLEGAL_STATE (R205). -/
def initBody (s : State) (claimed : Bool) : Outcome :=
  if s.drv = .off then
    match checkConfig s.pinOk s.configPort with
    | .bad sub n => s.raise (.configurationError sub) (BitVec.ofNat 32 n)
    | .legal k => claimAndOpen s claimed k s.configPort
  else s.raiseIllegalState .init

/-- INIT (R203): every INIT that is executed takes its one draw of CLAIMED_ELSEWHERE (R8, R20). -/
def execInit (s : State) : Outcome := s.whenFree (initBody s.afterClaim s.claimedElsewhere)

/-- RENDER, the issue step (R210): ILLEGAL_STATE in OFF, REFUSED on a length mismatch (log entry 9), else the snapshot
of the pixel port is pending and STATE is ENCODING. -/
def execRender (s : State) : Outcome :=
  s.whenFree
    (if s.drv = .off then s.raiseIllegalState .render
    else
      match s.cfg with
      | none => .fault .noConfig
      | some c =>
        if s.pixelPort.length = c.ledCount.toNat then .next (s.startRender s.pixelPort)
        else .next s.markRefused)

/-- SHUTDOWN (R220, R221). -/
def execShutdown (s : State) : Outcome :=
  s.whenFree (if s.drv = .off then .next s.completeOk else .next s.closeDriver.completeOk)

/-- NOP (R225). -/
def execNop (s : State) : Outcome := s.whenFree (.next s.completeOk)

/-- An illegal word (R230). -/
def execIllegal (w : Word16) (s : State) : Outcome :=
  s.whenFree (s.raise (.illegalCommand (illegalSub w)) (wordInfo w))

end Sys2Proof.Machine
end

