-- ==== Sys2Proof/Machine/Dispatch.lean ====
section
/-! DEFINITION. One arm per row of the opcode table. -/

namespace Sys2Proof.Machine

/-- What an instruction does. -/
def exec (i : Instr) (s : State) : Host.Outcome State Fault Refusal :=
  match i with
  | .nop => Sys2Proof.Machine.execNop s
  | .init => Sys2Proof.Machine.execInit s
  | .render => Sys2Proof.Machine.execRender s
  | .shutdown => Sys2Proof.Machine.execShutdown s
  | .tEncode imm8 bo => Sys2Proof.Machine.execTEncode imm8 bo s
  | .tSerialize => Sys2Proof.Machine.execTSerialize s
  | .tInvert inv => Sys2Proof.Machine.execTInvert inv s
  | .tMap => Sys2Proof.Machine.execTMap s
  | .transmitSpi => Sys2Proof.Machine.execTransmitSpi s
  | .transmitPwm => Sys2Proof.Machine.execTransmitPwm s
  | .transmitPcm => Sys2Proof.Machine.execTransmitPcm s
  | .illegal word => Sys2Proof.Machine.execIllegal word s

end Sys2Proof.Machine
end

