-- ==== Sys2Proof/Machine/Fetch.lean ====
section
/-! DEFINITION. What happens next (R72, R200): a host event, a command word issued by a host thread, or the driver's next
internal step. The block has no program counter and no instruction fetch (R24, R75); this is where a command word is
accepted and decoded. -/

namespace Sys2Proof.Machine

/-- What the machine does next: run an instruction, take a host event that is not a command, or stop. -/
inductive Turn where
  | run (i : Instr) (s : State)
  | host (s : State)
  | stop (r : Fault)
deriving DecidableEq, Repr

/-- The TRANSMIT row of a kind (R86). -/
def stageInstr : Kind → Instr
  | .spi => .transmitSpi
  | .pwm => .transmitPwm
  | .pcm => .transmitPcm

/-- The driver's enabled internal step (R200, R231): the stage of the render in flight, by `CFG.KIND` (R86); in OFF and
IDLE there is none and nothing happens. -/
def driverTurn (s : State) : Turn :=
  if s.busy then
    match cfgKind s.cfg with
    | some k => .run (stageInstr k) s
    | none => .stop .noConfig
  else .host s

/-- The agenda loses its first event. -/
def State.popAgenda (s : State) : State := { s with agenda := s.agenda.tail }

/-- A thread issues a command word (R200): the word is accepted. -/
def State.acceptFrom (s : State) (t : Nat) : State := { s with agenda := s.agenda.tail, issuer := t }

/-- What a host read returns (R29, R71, R87). -/
def State.hostRead (s : State) : HostReg → HostValue
  | .status => .status s.status
  | .result => .result s.result
  | .errInfo => .errInfo s.errInfo
  | .testReg =>
    match s.testReg with
    | .none => .noTest
    | .syms f => .symCodes (f.map frameSymCode)
    | .units k b => .units k b

/-- The thread is blocked in the render in flight (R200). -/
def State.waits (s : State) (t : Nat) : Bool := s.busy && s.renderThread == some t

/-- What a thread that may act does (R29, R69, R70, R180, R200, R206). A second answer loaded before the draw that uses
the first replaces it, and so does one that another thread loads while the render whose write it answers is in flight
(DESIGN CHOICE, log entries 2 and 3). Bytes on a byte-wide pixel port that are not whole pixels load nothing (DESIGN
CHOICE, log entry 27). -/
def actTurn (s : State) (t : Nat) : HostAct → Turn
  | .issue w => .run (decode w) (s.acceptFrom t)
  | .loadConfig r => .host { s.popAgenda with configPort := r }
  | .loadStrip px => .host { s.popAgenda with pixelPort := px }
  | .loadStripBytes b => .host { s.popAgenda with pixelPort := (stripOfPort b).getD s.pixelPort }
  | .answerClaim b => .host { s.popAgenda with claimAnswer := some b }
  | .answerWrite a => .host { s.popAgenda with writeAnswer := some a }
  | .read r => .host { s.popAgenda with lastRead := some (s.hostRead r) }
  | .writeStatus _ => .host s.popAgenda

/-- The turn of a thread (R72, R200, R201). A thread whose command never completes does nothing more, and what it would
do is dropped; a thread blocked in the render in flight does nothing before the render completes, so the driver steps
first and the thread's event stays. Log entries 7 and 8. -/
def threadTurn (s : State) (t : Nat) (a : HostAct) : Turn :=
  if t ∈ s.hung then .host s.popAgenda
  else if s.waits t then driverTurn s
  else actTurn s t a

/-- The next turn: the first event of the agenda; with none, the driver's internal step, or nothing: the block waits
for a command (R270). -/
def nextTurn (s : State) : Turn :=
  match s.agenda with
  | [] => driverTurn s
  | .act t a :: _ => threadTurn s t a
  | .driver :: _ => driverTurn s.popAgenda

/-- A thread that is blocked in nothing. -/
def State.freeThread (s : State) : Nat := s.hung.foldr max 0 + s.renderThread.getD 0 + 1

/-- The state with one command word about to be issued by a free thread. -/
def State.withCommand (s : State) (w : Word16) : State :=
  { s with agenda := .act s.freeThread (.issue w) :: s.agenda }

end Sys2Proof.Machine
end

