-- ==== Sys2Proof/Machine/Assembler.lean ====
section
/-! DEFINITION. The assembler of R97 and the pseudo-instructions of R98, on lines already parsed: what each line becomes
as host events of one thread. Log entry 23. -/

namespace Sys2Proof.Machine

/-- The fields a `.config` directive names (R97); `none` is an omitted field. -/
structure ConfigFields where
  kind : Option (BitVec 2) := none
  pin : Option Word32 := none
  invert : Option Bool := none
  ledCount : Option Word32 := none
  order : Option (BitVec 8) := none
  capacity : Option Word32 := none
  bitOrder : Option BitOrder := none
  leadIdle : Option Word32 := none
  trailIdle : Option Word32 := none
  spiBps : Option (BitVec 5) := none
  spiPatOne : Option (BitVec 16) := none
  spiPatZero : Option (BitVec 16) := none
  spiIdleBit : Option Bool := none
  pwmWordBytes : Option (BitVec 3) := none
  pwmRange : Option Word32 := none
  pwmDutyOne : Option Word32 := none
  pwmDutyZero : Option Word32 := none
  pwmDutyIdle : Option Word32 := none
  pcmSps : Option (BitVec 5) := none
  pcmSampleBytes : Option (BitVec 3) := none
  pcmSeqOne : Option (Vector Word32 16) := none
  pcmSeqZero : Option (Vector Word32 16) := none
  pcmSeqIdle : Option (Vector Word32 16) := none
deriving DecidableEq, Repr

/-- The default capacity: 4096 for SPI, none for the others (R8, D32). -/
def defaultCapacity (kind : BitVec 2) : Option Word32 := if kindOfCode kind = some .spi then some 4096 else none

/-- The record of a `.config` directive: an omitted field takes its default of R8; an omitted field with no default
makes the program ill-formed (R97). -/
def ConfigFields.record (f : ConfigFields) : Option ConfigRecord :=
  f.kind.bind fun kind =>
  f.pin.bind fun pin =>
  f.invert.bind fun invert =>
  f.ledCount.bind fun ledCount =>
  f.order.bind fun order =>
  (f.capacity.or (defaultCapacity kind)).bind fun capacity =>
  f.trailIdle.bind fun trailIdle =>
  f.pwmRange.bind fun pwmRange =>
  f.pwmDutyOne.bind fun pwmDutyOne =>
  f.pwmDutyZero.bind fun pwmDutyZero =>
  f.pwmDutyIdle.bind fun pwmDutyIdle =>
  f.pcmSps.bind fun pcmSps =>
  f.pcmSampleBytes.bind fun pcmSampleBytes =>
  f.pcmSeqOne.bind fun pcmSeqOne =>
  f.pcmSeqZero.bind fun pcmSeqZero =>
  f.pcmSeqIdle.map fun pcmSeqIdle =>
    { kind, pin, invert, ledCount, order, capacity, trailIdle, pwmRange, pwmDutyOne, pwmDutyZero, pwmDutyIdle,
      pcmSps, pcmSampleBytes, pcmSeqOne, pcmSeqZero, pcmSeqIdle
      bitOrder := f.bitOrder.getD .msb
      leadIdle := f.leadIdle.getD 0
      spiBps := f.spiBps.getD 4
      spiPatOne := f.spiPatOne.getD 0x000C
      spiPatZero := f.spiPatZero.getD 0x0008
      spiIdleBit := f.spiIdleBit.getD false
      pwmWordBytes := f.pwmWordBytes.getD 4 }

/-- A line of assembler (R97) or a pseudo-instruction (R98). -/
inductive AsmLine where
  | nop | init | render | shutdown
  /-- `t_encode <imm8>, msb|lsb`, or with the order left out (R98). -/
  | tEncode (imm8 : Byte) (bo : Option BitOrder)
  | tSerialize
  | tInvert (inv : Bool)
  | tMap
  /-- `reinit` (R98). -/
  | reinit
  | config (f : ConfigFields)
  | strip (s : Strip)
  | claimed (b : Bool)
  | phys (a : PhysAnswer)
deriving DecidableEq, Repr

/-- The commands a line stands for (R97, R98); directives produce no command word. -/
def AsmLine.commands : AsmLine → List Instr
  | .nop => [.nop]
  | .init => [.init]
  | .render => [.render]
  | .shutdown => [.shutdown]
  | .tEncode v bo => [.tEncode v (bo.getD .msb)]
  | .tSerialize => [.tSerialize]
  | .tInvert inv => [.tInvert inv]
  | .tMap => [.tMap]
  | .reinit => [.shutdown, .init]
  | .config _ | .strip _ | .claimed _ | .phys _ => []

/-- The port and draw loads of a directive (R97); none if its record is ill-formed. -/
def AsmLine.loads : AsmLine → Option (List HostAct)
  | .config f => f.record.map fun r => [.loadConfig r]
  | .strip s => some [.loadStrip s]
  | .claimed b => some [.answerClaim b]
  | .phys a => some [.answerWrite a]
  | .nop | .init | .render | .shutdown | .tEncode _ _ | .tSerialize | .tInvert _ | .tMap | .reinit => some []

/-- A line as host events of thread `t` (R97): its loads, then its words. The loads of a later line wait with the thread
while an earlier command of it has not completed (R72). -/
def assembleLine (t : Nat) (l : AsmLine) : Option (List HostEvent) :=
  l.loads.map fun as => (as ++ l.commands.map fun i => .issue (commandWord i)).map fun a => .act t a

/-- A program as host events of thread `t`; none if a line is ill-formed (R97). -/
def assemble (t : Nat) : List AsmLine → Option (List HostEvent)
  | [] => some []
  | l :: ls => (assembleLine t l).bind fun es => (assemble t ls).map fun r => es ++ r

end Sys2Proof.Machine
end

