-- ==== Sys2Proof/Machine/Line.lean ====
section
/-! DEFINITION. What the parameters mean on the line: the send order of SPI bits (R64), the high times (R179) and the
time of a frame (R281). No rule of the machine reads any of these; claims may. -/

namespace Sys2Proof.Machine

/-- The bits of a byte in the order an SPI peripheral sends them, bit 7 first (R64). Log entry 19. -/
def spiByteBits (b : Byte) : List Bool := (List.range 8).map fun t => b.getLsbD (7 - t)

/-- The bit stream on the line of a sequence of SPI bytes (R64). -/
def spiLine (b : List Byte) : List Bool := b.flatMap spiByteBits

/-- The part of the symbol period for which an SPI symbol is high: its 1 bits out of SPI_BPS (R179). -/
def spiHigh (c : ConfigRecord) (x : FrameSym) : ℚ := ((spiPat c x).count true : ℚ) / (c.spiBps.toNat : ℚ)

/-- The part of the symbol period for which a PWM symbol is high: duty(X) / PWM_RANGE (R166, R179). -/
def pwmHigh (c : ConfigRecord) (x : FrameSym) : ℚ := ((duty c x).toNat : ℚ) / (c.pwmRange.toNat : ℚ)

/-- The part of the symbol period for which a PCM sample is held: 1 / PCM_SPS (R179). -/
def pcmHold (c : ConfigRecord) : ℚ := 1 / (c.pcmSps.toNat : ℚ)

/-- `T_SYM` in seconds (R281). -/
def symbolPeriod (k : Kind) (c : ConfigRecord) : ℚ :=
  match k with
  | .spi => (c.spiBps.toNat : ℚ) / Config.spiClockHz.val
  | .pwm => (c.pwmRange.toNat : ℚ) / Config.pwmClockHz.val
  | .pcm => (c.pcmSps.toNat : ℚ) / Config.pcmSampleHz.val

/-- The time on the line of a frame, in seconds (R281): `n · T_SYM`, plus the SPI padding. -/
def frameTime (k : Kind) (c : ConfigRecord) (s : Frame) : ℚ :=
  (s.length : ℚ) * symbolPeriod k c +
    match k with
    | .spi => (spiPad (spiBits c s).length : ℚ) / Config.spiClockHz.val
    | .pwm => 0
    | .pcm => 0

end Sys2Proof.Machine
end

