-- ==== Sys2Proof/Safety.lean ====
section
/-! DEFINITION. What counts as a safe run (R231, R246), the invariant of the machine, and the words the claims use. -/

namespace Sys2Proof.Safety

open Sys2Proof.Machine

/-! ## Runs -/

/-- A run that has neither faulted (R32) nor lost its meaning (R33). -/
def Clean (s : State) : Prop := s.faultConcurrent = false ∧ s.refused = false

/-- An event that is a command still to be issued. -/
def isIssue : HostEvent → Bool
  | .act _ (.issue _) => true
  | .act _ (.loadConfig _) | .act _ (.loadStrip _) | .act _ (.loadStripBytes _) | .act _ (.answerClaim _)
  | .act _ (.answerWrite _) | .act _ (.read _) | .act _ (.writeStatus _) | .driver => false

/-- The end of a run (R231): no host thread has a command left to issue, none is blocked in one, and STATE is OFF or
IDLE. The blocked threads are the one of the render in flight and those whose command never completes. Log entry 15. -/
def Ended (s : State) : Prop :=
  s.agenda.all (fun e => !isIssue e) = true ∧ s.renderThread = none ∧ s.hung = [] ∧ s.busy = false

/-- The observation of an ended run (R231). -/
structure Observation where
  results : List Byte
  testReg : TestReg
  lastGood : Option (Strip × List Byte)
  wire : List WireEntry
  handle : Option Handle
  warnCap : Bool
  faultConcurrent : Bool
  refused : Bool
deriving DecidableEq, Repr

/-- What R231 lets an observer see. -/
def observe (s : State) : Observation where
  results := s.completions.map fun c => c.result
  testReg := s.testReg
  lastGood := s.lastGood
  wire := s.wire
  handle := s.handle
  warnCap := s.warnCap
  faultConcurrent := s.faultConcurrent
  refused := s.refused

/-! ## Words the claims use -/

/-- A render is in flight (R201). -/
def InFlight (s : State) : Prop := s.drv = .encoding ∨ s.drv = .transmitting

/-- A command may be executed (R200). -/
def Ready (s : State) : Prop := s.drv = .off ∨ s.drv = .idle

/-- A thread that is blocked in no command (R200): no command of it is left uncompleted, and it is not the thread of a
render in flight. Log entries 7 and 8. -/
def Free (s : State) (t : Nat) : Prop := t ∉ s.hung ∧ (InFlight s → s.renderThread ≠ some t)

/-- The state in which the command being executed has completed with a given RESULT byte and ERR_INFO, and nothing
else has changed (R200, R243). -/
def finished (s : State) (r : Byte) (info : Word32) : State :=
  { s with result := r, errInfo := info, completions := s.completions ++ [⟨s.issuer, r, info⟩] }

/-- The state in which the render in flight has completed with a given RESULT byte and ERR_INFO for the thread that
issued it, PENDING is none and STATE is IDLE, and nothing else has changed (R211, R212). -/
def renderFinished (s : State) (r : Byte) (info : Word32) : State :=
  { s with
    result := r
    errInfo := info
    completions := s.completions ++ [⟨s.renderThread.getD s.issuer, r, info⟩]
    pending := none
    drv := .idle
    renderThread := none }

/-- The concurrency fault as R201 gives it: a next state in which FAULT_CONCURRENT is set and, of the block, nothing else
has changed. Which threads stay blocked is the model's own field `hung` (log entry 8), left open here. -/
def ConcurrencyFault (s : State) (o : Outcome) : Prop := ∃ h, o = .next { s with faultConcurrent := true, hung := h }

/-- The TRANSMIT row of each kind (R86). -/
def IsStage (k : Kind) (i : Instr) : Prop :=
  (k = .spi ∧ i = .transmitSpi) ∨ (k = .pwm ∧ i = .transmitPwm) ∨ (k = .pcm ∧ i = .transmitPcm)

/-- The configuration is loaded and its KIND is `k`. -/
def Configured (s : State) (c : ConfigRecord) (k : Kind) : Prop := s.cfg = some c ∧ kindOfCode c.kind = some k

/-- The `RESULT` values a command may write (R91, R92). -/
def legalResults : List Byte := [0x00, 0x11, 0x21, 0x31, 0x41, 0x02, 0x03, 0x04, 0x15, 0x25, 0x06]

/-- The bytes of the last physical write that was answered `ok`. -/
def lastSent (wire : List WireEntry) : Option (List Byte) :=
  (wire.filter fun e => decide (e.outcome = .ok)).getLast?.map fun e => e.sent

/-! ## The config check, one proposition per numbered check (R202) -/

/-- A sequence field whose used entries are in range and whose other entries are zero (R96). -/
def SeqOk (c : ConfigRecord) (x : Vector Word32 16) : Prop :=
  ∀ i : Fin 16, (i.val < c.pcmSps.toNat → x[i].toNat < 2 ^ (8 * c.pcmSampleBytes.toNat)) ∧
    (c.pcmSps.toNat ≤ i.val → x[i] = 0)

/-- Check number `n` of R202. -/
def Check (c : ConfigRecord) (n : Nat) : Prop :=
  match n with
  | 1 => 1 ≤ c.trailIdle.toNat
  | 2 => 1 ≤ c.spiBps.toNat ∧ c.spiBps.toNat ≤ 16
  | 3 => c.spiPatOne.toNat < 2 ^ c.spiBps.toNat
  | 4 => c.spiPatZero.toNat < 2 ^ c.spiBps.toNat
  | 5 => c.spiPatOne ≠ c.spiPatZero
  | 6 => c.pwmWordBytes.toNat = 1 ∨ c.pwmWordBytes.toNat = 2 ∨ c.pwmWordBytes.toNat = 4
  | 7 => 1 ≤ c.pwmRange.toNat ∧ c.pwmRange.toNat < 2 ^ (8 * c.pwmWordBytes.toNat)
  | 8 => c.pwmDutyOne.toNat ≤ c.pwmRange.toNat
  | 9 => c.pwmDutyZero.toNat ≤ c.pwmRange.toNat
  | 10 => c.pwmDutyIdle.toNat ≤ c.pwmRange.toNat
  | 11 => c.pwmDutyOne ≠ c.pwmDutyZero
  | 12 => 1 ≤ c.pcmSps.toNat ∧ c.pcmSps.toNat ≤ 16
  | 13 => c.pcmSampleBytes.toNat = 1 ∨ c.pcmSampleBytes.toNat = 2 ∨ c.pcmSampleBytes.toNat = 4
  | 14 => SeqOk c c.pcmSeqOne ∧ SeqOk c c.pcmSeqZero ∧ SeqOk c c.pcmSeqIdle
  | 15 => ∃ i : Fin 16, i.val < c.pcmSps.toNat ∧ c.pcmSeqOne[i] ≠ c.pcmSeqZero[i]
  | _ => True

/-- The checks of R202 that apply to a kind. -/
def Applies (k : Kind) (n : Nat) : Prop :=
  n = 1 ∨ (k = .spi ∧ 2 ≤ n ∧ n ≤ 5) ∨ (k = .pwm ∧ 6 ≤ n ∧ n ≤ 11) ∨ (k = .pcm ∧ 12 ≤ n ∧ n ≤ 15)

/-! ## The invariant -/

/-- What holds of every state a run reaches: what OFF means (R25, R60), that a held handle goes with a legal
configuration and a buffer of its capacity (R23, R30, R60), what PENDING holds in each stage (R31, R211), that TXBUF
holds the pending frame while it is sent (R177), that a blocked thread is waiting for a command that will complete
(R200), that a mapped TEST_REG fits the buffer (R185), that RESULT is a value of R91, and that LAST_GOOD is the last
frame the line took whole (R216). -/
structure Consistent (s : State) : Prop where
  off : s.drv = .off →
    s.cfg = none ∧ s.handle = none ∧ s.txbuf = none ∧ s.testReg = .none ∧ s.warnCap = false
  opened : s.drv ≠ .off → ∃ c k m, s.cfg = some c ∧ checkConfig s.pinOk c = .legal k ∧
    s.handle = some { kind := k, pin := c.pin } ∧ s.txbuf = some m ∧ m.size = c.capacity.toNat ∧ m.wf = true ∧
    s.warnCap = decide (c.capacity.toNat < frameBytes k c c.ledCount.toNat)
  resting : Ready s → s.pending = none ∧ s.renderThread = none
  encoding : s.drv = .encoding → ∃ c p, s.cfg = some c ∧ s.pending = some { strip := p, encoded := none } ∧
    p.length = c.ledCount.toNat ∧ s.renderThread ≠ none
  transmitting : s.drv = .transmitting → ∃ c k p f, Configured s c k ∧ renderFrame c p = some f ∧
    s.pending = some { strip := p, encoded := some ⟨f, bytesOf k c f, (bytesOf k c f).length⟩ } ∧
    p.length = c.ledCount.toNat ∧ (bytesOf k c f).length ≤ c.capacity.toNat ∧
    (∀ j, j < (bytesOf k c f).length → s.bufferByte j = (bytesOf k c f)[j]?) ∧ s.renderThread ≠ none
  blocked : ∀ t, s.renderThread = some t → t ∉ s.hung
  mapped : ∀ k b, s.testReg = .units k b → ∃ c, Configured s c k ∧ b.length ≤ c.capacity.toNat
  resultLegal : s.result ∈ legalResults
  shown : s.lastGood.map (fun g => g.2) = lastSent s.wire

end Sys2Proof.Safety
end

