-- ==== Sys2Proof/Certificates/Slice0/Obligations.lean ====
section
/-! DEFINITION. The statements for the provers. Each docstring names the rule of spec/ it formalises or rests on. -/

open Sys2Proof Sys2Proof.Machine Sys2Proof.Safety

/-! ## Encodings -/

/-- Words of 30_encoding.md written out from R80-R82 decode to the instruction they stand for. -/
def Obligations.PublishedWordsDecodeAsWritten : Prop :=
  decode 0x0000 = .nop ∧ decode 0x0001 = .init ∧ decode 0x0002 = .render ∧ decode 0x0003 = .shutdown ∧
  decode 0xA504 = .tEncode 0xA5 .msb ∧ decode 0x1214 = .tEncode 0x12 .lsb ∧ decode 0x0005 = .tSerialize ∧
  decode 0x0006 = .tInvert false ∧ decode 0x0026 = .tInvert true ∧ decode 0x0007 = .tMap ∧
  decode 0x0008 = .illegal 0x0008 ∧ decode 0x0108 = .illegal 0x0108 ∧ decode 0x0024 = .illegal 0x0024 ∧
  decode 0x0084 = .illegal 0x0084 ∧ decode 0x0016 = .illegal 0x0016

/-- No bit of an encoding is dropped: the word of a well-formed instruction decodes to it (R80-R85). -/
def Obligations.DecodeOfEncodeIsTheInstruction : Prop :=
  ∀ i : Instr, i.wellFormed = true → ∀ w, encode i = some w → decode w = i

/-- Every word is the word of what it decodes to, and that is well formed (R84, R85). -/
def Obligations.EncodeOfDecodeIsTheWord : Prop :=
  ∀ w : Word16, encode (decode w) = some w ∧ (decode w).wellFormed = true

/-- R85: decoding is total, a word is a command iff it matches the command's row, the operands are the bits R80 gives,
no internal row is ever decoded, and the rows do not overlap. -/
def Obligations.WordIsACommandExactlyWhenItsRowMatches : Prop :=
  (∀ w : Word16,
    (decode w = .nop ↔ w &&& 0xFFFF = 0x0000) ∧
    (decode w = .init ↔ w &&& 0xFFFF = 0x0001) ∧
    (decode w = .render ↔ w &&& 0xFFFF = 0x0002) ∧
    (decode w = .shutdown ↔ w &&& 0xFFFF = 0x0003) ∧
    (∀ v bo, decode w = .tEncode v bo ↔
      w &&& 0x00EF = 0x0004 ∧ v = w.extractLsb' 8 8 ∧ bo = if w.getLsbD 4 then .lsb else .msb) ∧
    (decode w = .tSerialize ↔ w &&& 0xFFFF = 0x0005) ∧
    (∀ inv, decode w = .tInvert inv ↔ w &&& 0xFFDF = 0x0006 ∧ inv = w.getLsbD 5) ∧
    (decode w = .tMap ↔ w &&& 0xFFFF = 0x0007) ∧
    (∀ u, decode w = .illegal u ↔ u = w ∧ w &&& 0xFFFF ≠ 0x0000 ∧ w &&& 0xFFFF ≠ 0x0001 ∧ w &&& 0xFFFF ≠ 0x0002 ∧
      w &&& 0xFFFF ≠ 0x0003 ∧ w &&& 0x00EF ≠ 0x0004 ∧ w &&& 0xFFFF ≠ 0x0005 ∧ w &&& 0xFFDF ≠ 0x0006 ∧
      w &&& 0xFFFF ≠ 0x0007) ∧
    decode w ≠ .transmitSpi ∧ decode w ≠ .transmitPwm ∧ decode w ≠ .transmitPcm) ∧
  ([(0xFFFF, 0x0000), (0xFFFF, 0x0001), (0xFFFF, 0x0002), (0xFFFF, 0x0003), (0x00EF, 0x0004), (0xFFFF, 0x0005),
    (0xFFDF, 0x0006), (0xFFFF, 0x0007)] : List (Word16 × Word16)).Pairwise
      (fun a b => ∀ w : Word16, ¬ (w &&& a.1 = a.2 ∧ w &&& b.1 = b.2))

/-- R84 and R230: a word is illegal iff its OP is above 7 or a field marked 0 is not zero; in OFF and IDLE it ends with
ILLEGAL_COMMAND, sub-code RESERVED_OP for any OP above 7, else NONZERO_FIELD, ERR_INFO the word, and changes nothing
else. -/
def Obligations.IllegalWordsEndWithIllegalCommandOnly : Prop :=
  ∀ (w : Word16),
    let f := fieldsOf w
    let legal := f.op.toNat < 8 ∧ f.rsv = 0 ∧ (f.op ≠ 4 → f.bo = 0 ∧ f.imm8 = 0) ∧ (f.op ≠ 6 → f.inv = 0)
    (decode w = .illegal w ↔ ¬ legal) ∧
    (¬ legal → ∀ s : State, Ready s →
      exec (decode w) s = .next (finished s (if 8 ≤ f.op.toNat then 0x15 else 0x25) (BitVec.ofNat 32 w.toNat)))

/-! ## The commands -/

/-- R225: NOP is word 0x0000; in OFF and IDLE it writes RESULT OK and ERR_INFO 0 and nothing else; in flight it is the
concurrency fault. -/
def Obligations.NopWritesOnlyItsResult : Prop :=
  (∀ w, decode w = .nop ↔ w = 0x0000) ∧
  ∀ s : State, (Ready s → exec .nop s = .next (finished s 0x00 0)) ∧ (InFlight s → ConcurrencyFault s (exec .nop s))

/-- R115: T_ENCODE in IDLE leaves in TEST_REG the bits of IMM8, bit 7 first for MSB and bit 0 first for LSB, whatever
CFG.BIT_ORDER is; ILLEGAL_STATE with the word in OFF; the concurrency fault in flight. -/
def Obligations.TEncodeShowsTheBitsOfItsImmediate : Prop :=
  ∀ (s : State) (v : Byte) (bo : BitOrder),
    (∀ w, decode w = .tEncode v bo ↔ w &&& 0x00EF = 0x0004 ∧ w.extractLsb' 8 8 = v ∧ w.getLsbD 4 = decide (bo = .lsb)) ∧
    (s.drv = .idle → exec (.tEncode v bo) s = .next (finished { s with
      testReg := .syms ((List.range 8).map fun i =>
        if v.getLsbD (match bo with | .msb => 7 - i | .lsb => i) then .one else .zero) } 0x00 0)) ∧
    (s.drv = .off → exec (.tEncode v bo) s =
      .next (finished s 0x06 (BitVec.ofNat 32 (v.toNat * 256 + (if bo = .lsb then 16 else 0) + 4)))) ∧
    (InFlight s → ConcurrencyFault s (exec (.tEncode v bo) s))

/-- R137: T_SERIALIZE in IDLE leaves in TEST_REG the frame of the strip on the pixel port, of any length, laid out by
CFG, with no inversion; ILLEGAL_STATE in OFF; the concurrency fault in flight. The premise that CFG.ORDER is a
permutation is R135's (statement `SerializeNeverFailsInTheBlock`). -/
def Obligations.TSerializeShowsTheFrameOfThePixelPort : Prop :=
  ∀ (s : State) (c : ConfigRecord),
    (∀ w, decode w = .tSerialize ↔ w = 0x0005) ∧
    (s.drv = .idle → s.cfg = some c → perm c.order = true → exec .tSerialize s = .next (finished { s with
      testReg := .syms (List.replicate c.leadIdle.toNat .idle ++
        (s.pixelPort.flatMap fun px => [0, 1, 2, 3].flatMap fun j =>
          (encodeChannel (chan px (orderAt c.order j)) c.bitOrder).map symToFrame) ++
        List.replicate c.trailIdle.toNat .idle) } 0x00 0)) ∧
    (s.drv = .off → exec .tSerialize s = .next (finished s 0x06 0x00000005)) ∧
    (InFlight s → ConcurrencyFault s (exec .tSerialize s))

/-- R153: T_INVERT in IDLE swaps ONE and ZERO in the symbols of TEST_REG when INV is 1 and leaves them when it is 0;
ILLEGAL_STATE with the word, TEST_REG unchanged, in OFF or when TEST_REG holds no symbols; the concurrency fault in
flight. -/
def Obligations.TInvertSwapsTheSymbolsOfTestReg : Prop :=
  ∀ (s : State) (inv : Bool),
    (∀ w, decode w = .tInvert inv ↔ w = if inv then 0x0026 else 0x0006) ∧
    (∀ f, s.drv = .idle → s.testReg = .syms f → exec (.tInvert inv) s = .next (finished { s with
      testReg := .syms (if inv then f.map (fun x : FrameSym => match x with | .zero => FrameSym.one | .one => .zero | .idle => .idle)
        else f) } 0x00 0)) ∧
    (s.drv = .off ∨ (s.drv = .idle ∧ ∀ f, s.testReg ≠ .syms f) →
      exec (.tInvert inv) s = .next (finished s 0x06 (if inv then 0x00000026 else 0x00000006))) ∧
    (InFlight s → ConcurrencyFault s (exec (.tInvert inv) s))

/-- R185: T_MAP in IDLE with symbols in TEST_REG leaves the bytes of the configured transport there when they fit
CFG.CAPACITY, the bound included, else BUFFER_OVERFLOW_ERROR with the saturated byte count and TEST_REG unchanged;
ILLEGAL_STATE in OFF or without symbols; the concurrency fault in flight. -/
def Obligations.TMapMapsTheSymbolsOrOverflows : Prop :=
  ∀ (s : State) (c : ConfigRecord) (k : Kind) (f : Frame),
    (∀ w, decode w = .tMap ↔ w = 0x0007) ∧
    (s.drv = .idle → Configured s c k → s.testReg = .syms f → (bytesOf k c f).length ≤ c.capacity.toNat →
      exec .tMap s = .next (finished { s with testReg := .units k (bytesOf k c f) } 0x00 0)) ∧
    (s.drv = .idle → Configured s c k → s.testReg = .syms f → c.capacity.toNat < (bytesOf k c f).length →
      exec .tMap s = .next (finished s 0x02 (BitVec.ofNat 32 (min (bytesOf k c f).length (2 ^ 32 - 1))))) ∧
    (s.drv = .off ∨ (s.drv = .idle ∧ ∀ g, s.testReg ≠ .syms g) →
      exec .tMap s = .next (finished s 0x06 0x00000007)) ∧
    (InFlight s → ConcurrencyFault s (exec .tMap s))

/-- R202: the record is legal for its kind iff every check that applies passes; otherwise the first that fails decides,
in the order TRANSPORT, CHANNEL_ORDER, PIN, then the numbered checks, whose number is reported. -/
def Obligations.ConfigCheckReportsTheFirstFailure : Prop :=
  ∀ (pinOk : Kind → Word32 → Bool) (c : ConfigRecord),
    (∀ k, checkConfig pinOk c = .legal k ↔ kindOfCode c.kind = some k ∧ (orderChannels c.order).Nodup ∧
      pinOk k c.pin = true ∧ ∀ n, Applies k n → Check c n) ∧
    (∀ n, checkConfig pinOk c = .bad .transport n ↔ c.kind = 3 ∧ n = 0) ∧
    (∀ n, checkConfig pinOk c = .bad .channelOrder n ↔ c.kind ≠ 3 ∧ ¬ (orderChannels c.order).Nodup ∧ n = 0) ∧
    (∀ n, checkConfig pinOk c = .bad .pin n ↔ ∃ k, kindOfCode c.kind = some k ∧ (orderChannels c.order).Nodup ∧
      pinOk k c.pin = false ∧ n = 0) ∧
    (∀ n, checkConfig pinOk c = .bad .parameter n ↔ ∃ k, kindOfCode c.kind = some k ∧
      (orderChannels c.order).Nodup ∧ pinOk k c.pin = true ∧ Applies k n ∧ ¬ Check c n ∧
      ∀ m, m < n → Applies k m → Check c m)

/-- R203, with R205 and R206. In OFF on a legal record whose peripheral is not claimed INIT claims it, loads CFG, makes a
buffer of CFG.CAPACITY bytes with no specified contents, sets WARN_CAP by R204, clears TEST_REG, moves to IDLE and ends
OK. On an illegal record it ends with CONFIGURATION_ERROR, its sub-code and the check number; on a claimed peripheral
with RESOURCE_CONFLICT_ERROR, claiming nothing. In IDLE it ends with ILLEGAL_STATE and the word; in flight it is the
concurrency fault. Nothing else of the block changes. What becomes of the draw (the loaded answer and the counter) is
left open here: `EachAnswerIsUsedOnce` says it, log entries 2 and 4. -/
def Obligations.InitFollowsItsRule : Prop :=
  (∀ w, decode w = .init ↔ w = 0x0001) ∧
  ∀ s : State,
    (∀ k, s.drv = .off → checkConfig s.pinOk s.configPort = .legal k → s.claimedElsewhere = false →
      ∃ a d, exec .init s = .next (finished { s with
        handle := some { kind := k, pin := s.configPort.pin }
        cfg := some s.configPort
        txbuf := some { size := s.configPort.capacity.toNat, cells := [] }
        warnCap := decide (s.configPort.capacity.toNat < frameBytes k s.configPort s.configPort.ledCount.toNat)
        testReg := .none
        drv := .idle
        claimAnswer := a
        draws := d } 0x00 0)) ∧
    (∀ sub n, s.drv = .off → checkConfig s.pinOk s.configPort = .bad sub n →
      ∃ a d, exec .init s = .next (finished { s with claimAnswer := a, draws := d }
      (match sub with | .channelOrder => 0x11 | .transport => 0x21 | .pin => 0x31 | .parameter => 0x41)
      (BitVec.ofNat 32 n))) ∧
    (∀ k, s.drv = .off → checkConfig s.pinOk s.configPort = .legal k → s.claimedElsewhere = true →
      ∃ a d, exec .init s = .next (finished { s with claimAnswer := a, draws := d } 0x03 0)) ∧
    (s.drv = .idle → ∃ a d, exec .init s = .next (finished { s with claimAnswer := a, draws := d } 0x06 0x00000001)) ∧
    (InFlight s → ConcurrencyFault s (exec .init s))

/-- R210: RENDER in IDLE with a strip of LED_COUNT pixels takes the snapshot of the pixel port and moves to ENCODING
without completing; with a strip of another length it sets REFUSED and changes nothing else of the block; in OFF it ends
with ILLEGAL_STATE; in flight it is the concurrency fault. Which threads are blocked afterwards is the model's own (log
entries 7 and 9), left open here. -/
def Obligations.RenderTakesTheStripOnThePort : Prop :=
  (∀ w, decode w = .render ↔ w = 0x0002) ∧
  ∀ (s : State) (c : ConfigRecord),
    (s.drv = .idle → s.cfg = some c → s.pixelPort.length = c.ledCount.toNat →
      ∃ r, exec .render s = .next { s with
        pending := some { strip := s.pixelPort, encoded := none }
        drv := .encoding
        renderThread := r }) ∧
    (s.drv = .idle → s.cfg = some c → s.pixelPort.length ≠ c.ledCount.toNat →
      ∃ h, exec .render s = .next { s with refused := true, hung := h }) ∧
    (s.drv = .off → exec .render s = .next (finished s 0x06 0x00000002)) ∧
    (InFlight s → ConcurrencyFault s (exec .render s))

/-- R211, R176, R177: the Encoding stage of a frame of more than CFG.CAPACITY bytes ends the render with
BUFFER_OVERFLOW_ERROR and the saturated byte count, TXBUF, WIRE and LAST_GOOD unchanged; of a frame that fits, the bound
included, it writes byte j of the frame at TXBUF[j] and no other byte, records the frame in PENDING and moves to
TRANSMITTING. Nothing else changes. -/
def Obligations.EncodingStageFollowsItsRule : Prop :=
  ∀ (s : State) (c : ConfigRecord) (k : Kind) (i : Instr) (p : Strip) (f : Frame) (m : Memory), IsStage k i →
    s.drv = .encoding → Configured s c k → s.pending = some { strip := p, encoded := none } →
    serialize p c.order c.bitOrder c.leadIdle.toNat c.trailIdle.toNat = some f →
    s.txbuf = some m → m.size = c.capacity.toNat →
    (c.capacity.toNat < (bytesOf k c (applyInversion f c.invert)).length →
      exec i s = .next (renderFinished s 0x02
        (BitVec.ofNat 32 (min (bytesOf k c (applyInversion f c.invert)).length (2 ^ 32 - 1))))) ∧
    ((bytesOf k c (applyInversion f c.invert)).length ≤ c.capacity.toNat →
      ∃ m', exec i s = .next { s with
          txbuf := some m'
          pending := some { strip := p, encoded := some {
            frame := applyInversion f c.invert
            bytes := bytesOf k c (applyInversion f c.invert)
            nbytes := (bytesOf k c (applyInversion f c.invert)).length } }
          drv := .transmitting } ∧ m'.size = m.size ∧
        ∀ j, m'.byte j = if j < (bytesOf k c (applyInversion f c.invert)).length
          then (bytesOf k c (applyInversion f c.invert))[j]? else m.byte j)

/-- R212, R60, R180, R181, where TXBUF holds the pending bytes (a clause of the invariant): when the peripheral answers
ok, the Transmitting stage logs the whole frame, read from TXBUF, in WIRE, commits strip and bytes to LAST_GOOD and ends
the render with OK. When it fails after u whole units, u at most the units of the frame and each such u possible, it
logs exactly those units, leaves LAST_GOOD, ends the render with TRANSPORT_ERROR and ERR_INFO u and sends nothing again.
Either way STATE is IDLE and nothing else of the block changes; the draw counter is the model's own (log entry 4), left
open here. -/
def Obligations.TransmittingStageFollowsItsRule : Prop :=
  ∀ (s : State) (c : ConfigRecord) (k : Kind) (i : Instr) (p : Strip) (e : Encoded), IsStage k i →
    s.drv = .transmitting → Configured s c k → s.pending = some { strip := p, encoded := some e } →
    s.txbuf ≠ none → e.nbytes = e.bytes.length → (∀ j, j < e.nbytes → s.bufferByte j = e.bytes[j]?) →
    (s.writeAnswer.getD (Config.physOutcome s.draws) = .ok →
      ∃ d, exec i s = .next (renderFinished { s with
        wire := s.wire ++ [⟨k, e.bytes, .ok⟩]
        lastGood := some (p, e.bytes)
        writeAnswer := none
        draws := d } 0x00 0)) ∧
    (∀ j, s.writeAnswer.getD (Config.physOutcome s.draws) = .fail j →
      ∃ u d, u ≤ e.bytes.length / unitWidth k c ∧ (j ≤ e.bytes.length / unitWidth k c → u = j) ∧
        exec i s = .next (renderFinished { s with
          wire := s.wire ++ [⟨k, e.bytes.take (u * unitWidth k c), .fail⟩]
          writeAnswer := none
          draws := d } 0x04 (BitVec.ofNat 32 u)))

/-- R220, R221: SHUTDOWN in IDLE releases the handle, drops CFG, TXBUF and TEST_REG, clears WARN_CAP, moves to OFF and
ends OK; in OFF it only ends OK; LAST_GOOD, WIRE and the sticky marks stay. In flight it is the concurrency fault. -/
def Obligations.ShutdownReleasesTheHandle : Prop :=
  (∀ w, decode w = .shutdown ↔ w = 0x0003) ∧
  ∀ s : State,
    (s.drv = .idle → exec .shutdown s = .next (finished { s with
      handle := none, cfg := none, txbuf := none, testReg := .none, warnCap := false, drv := .off } 0x00 0)) ∧
    (s.drv = .off → exec .shutdown s = .next (finished s 0x00 0)) ∧
    (InFlight s → ConcurrencyFault s (exec .shutdown s))

/-- R86: a TRANSMIT row runs only as a stage of a render of its own kind; in OFF and IDLE, with a configuration or
without, and under a configuration of another kind, the model refuses it by name (the model's reading, log entry 13). -/
def Obligations.TransmitRowsRunOnlyAsStages : Prop :=
  ∀ (s : State) (k : Kind) (i : Instr), IsStage k i →
    (Ready s ∨ ∃ c, s.cfg = some c ∧ kindOfCode c.kind ≠ some k) → exec i s = .refused .stageNotEnabled

/-! ## Concurrency, steps and the host -/

/-- R201: any command word issued while a render is in flight is not executed, whatever it is: FAULT_CONCURRENT is set,
no RESULT is written, and the render in flight is unaffected. -/
def Obligations.AnyWordInFlightIsTheConcurrencyFault : Prop :=
  ∀ (s : State) (w : Word16), InFlight s → ConcurrencyFault s (exec (decode w) s)

/-- Who is blocked, and until when (the model's reading of R72, R200 and R201, log entries 7, 8 and 9). RENDER blocks
its thread. While the render is in flight whatever that thread would do next waits: the driver's stage runs and the
event stays; when a stage ends the render the thread is blocked no more and gets the result. A thread whose word was the
concurrency fault or whose RENDER was refused never completes, and what it would do next is dropped. -/
def Obligations.BlockedThreadsIssueNothing : Prop :=
  (∀ (s : State) (c : ConfigRecord), s.drv = .idle → s.cfg = some c → s.pixelPort.length = c.ledCount.toNat →
    ∃ t, exec .render s = .next t ∧ t.renderThread = some s.issuer ∧ t.hung = s.hung) ∧
  (∀ (s : State) (c : ConfigRecord) (k : Kind) (i : Instr) (t : Nat) (a : HostAct) (rest : List HostEvent),
    IsStage k i → InFlight s → Configured s c k → s.agenda = .act t a :: rest → t ∉ s.hung →
    s.renderThread = some t → step s = exec i s) ∧
  (∀ (s u : State) (k : Kind) (i : Instr) (t : Nat), IsStage k i → s.renderThread = some t → exec i s = .next u →
    u.agenda = s.agenda ∧ (u.drv = .transmitting → u.renderThread = some t) ∧
    (u.drv ≠ .transmitting → u.renderThread = none ∧ u.completions = s.completions ++ [⟨t, u.result, u.errInfo⟩])) ∧
  (∀ (s : State) (c : ConfigRecord), s.drv = .idle → s.cfg = some c → s.pixelPort.length ≠ c.ledCount.toNat →
    exec .render s = .next { s with refused := true, hung := s.issuer :: s.hung }) ∧
  (∀ (s : State) (t : Nat) (w : Word16) (rest : List HostEvent), InFlight s → s.agenda = .act t (.issue w) :: rest →
    Free s t → step s = .next { s with agenda := rest, issuer := t, faultConcurrent := true, hung := t :: s.hung }) ∧
  (∀ (s : State) (t : Nat) (a : HostAct) (rest : List HostEvent), s.agenda = .act t a :: rest → t ∈ s.hung →
    step s = .next { s with agenda := rest })

/-- A step runs the decoded instruction: when the next event is a thread, blocked in no command, issuing a word, the
step is the meaning of the decoded word on the state that has accepted it (R200; which threads are blocked is log
entries 7 and 8). -/
def Obligations.StepRunsTheIssuedCommand : Prop :=
  ∀ (s : State) (t : Nat) (w : Word16) (rest : List HostEvent), s.agenda = .act t (.issue w) :: rest → Free s t →
    step s = exec (decode w) { s with agenda := rest, issuer := t }

/-- A command word placed in front of any state is what the next step runs (log entry 6). -/
def Obligations.PlacedWordRunsNext : Prop :=
  ∀ (s : State) (w : Word16), ∃ t, Free s t ∧
    step (s.withFetchWord 16 w.toNat) = exec (decode w) { s with issuer := t }

/-- R200, R231: in flight the driver's own step is always enabled: with no event left, and at a driver event, the step
is the stage of CFG.KIND. -/
def Obligations.StepRunsTheStageInFlight : Prop :=
  ∀ (s : State) (c : ConfigRecord) (k : Kind) (i : Instr), IsStage k i → InFlight s → Configured s c k →
    (s.agenda = [] → step s = exec i s) ∧
    (∀ rest, s.agenda = .driver :: rest → step s = exec i { s with agenda := rest })

/-- R24, R270: in OFF and IDLE nothing happens unless a host acts: with no event left the step changes nothing, and a
driver event is only used up. -/
def Obligations.TheBlockWaitsForACommand : Prop :=
  ∀ s : State, Ready s →
    (s.agenda = [] → step s = .next s) ∧
    (∀ rest, s.agenda = .driver :: rest → step s = .next { s with agenda := rest })

/-- R29: the fields of the STATUS view; a read of STATUS, RESULT, ERR_INFO or TEST_REG by a thread that is blocked in no
command (log entries 7 and 8), in any state, a render in flight included, returns the register and changes nothing of
the block, and a write of STATUS changes nothing. -/
def Obligations.StatusAndReadsHaveNoSideEffect : Prop :=
  (∀ s : State,
    s.status.extractLsb' 0 2 = (match s.drv with | .off => 0 | .idle => 1 | .encoding => 2 | .transmitting => 3) ∧
    s.status.getLsbD 2 = s.warnCap ∧ s.status.getLsbD 3 = s.faultConcurrent ∧
    s.status.getLsbD 4 = s.handle.isSome ∧ s.status.extractLsb' 5 3 = 0 ∧ s.status.extractLsb' 8 8 = s.result) ∧
  ∀ (s : State) (t : Nat) (rest : List HostEvent), Free s t →
    (s.agenda = .act t (.read .status) :: rest → step s = .next { s with agenda := rest, lastRead := some (.status s.status) }) ∧
    (s.agenda = .act t (.read .result) :: rest → step s = .next { s with agenda := rest, lastRead := some (.result s.result) }) ∧
    (s.agenda = .act t (.read .errInfo) :: rest →
      step s = .next { s with agenda := rest, lastRead := some (.errInfo s.errInfo) }) ∧
    (s.agenda = .act t (.read .testReg) :: rest → s.testReg = .none →
      step s = .next { s with agenda := rest, lastRead := some .noTest }) ∧
    (∀ f, s.agenda = .act t (.read .testReg) :: rest → s.testReg = .syms f →
      step s = .next { s with agenda := rest, lastRead := some (.symCodes (f.map fun x =>
        match x with | .zero => 0 | .one => 1 | .idle => 2)) }) ∧
    (∀ k b, s.agenda = .act t (.read .testReg) :: rest → s.testReg = .units k b →
      step s = .next { s with agenda := rest, lastRead := some (.units k b) }) ∧
    (∀ v, s.agenda = .act t (.writeStatus v) :: rest → step s = .next { s with agenda := rest })

/-- R69, R70, R180, R206: loading a port or an answer, by a thread that is blocked in no command, changes that port or
answer alone, a render in flight included; so a strip or a record loaded then has no effect on it. An answer loaded
before another is used replaces it (the model's choice, log entries 2 and 3), and bytes on a byte-wide pixel port that
are not whole pixels load nothing (the model's choice, log entry 27). -/
def Obligations.HostLoadsChangeOnlyTheirPort : Prop :=
  ∀ (s : State) (t : Nat) (rest : List HostEvent), Free s t →
    (∀ r, s.agenda = .act t (.loadConfig r) :: rest → step s = .next { s with agenda := rest, configPort := r }) ∧
    (∀ p, s.agenda = .act t (.loadStrip p) :: rest → step s = .next { s with agenda := rest, pixelPort := p }) ∧
    (∀ p, s.agenda = .act t (.loadStripBytes (portBytes p)) :: rest →
      step s = .next { s with agenda := rest, pixelPort := p }) ∧
    (∀ b, s.agenda = .act t (.loadStripBytes b) :: rest → b.length % 4 ≠ 0 → step s = .next { s with agenda := rest }) ∧
    (∀ b, s.agenda = .act t (.answerClaim b) :: rest → step s = .next { s with agenda := rest, claimAnswer := some b }) ∧
    (∀ a, s.agenda = .act t (.answerWrite a) :: rest → step s = .next { s with agenda := rest, writeAnswer := some a })

/-- R69: on a byte-wide pixel port pixel p of a strip occupies bytes 4p .. 4p+3 in the fixed order R, G, B, W (CFG.ORDER
does not enter), the port is 4 bytes a pixel, and it carries the strip back; every sequence of whole pixels is some
strip's. The last clause is no rule of the spec: R69 is silent on bytes that are not whole pixels, and that they carry no
strip is the model's choice (DESIGN CHOICE, log entry 27). -/
def Obligations.BytePortHoldsPixelsInFixedOrder : Prop :=
  (∀ (s : Strip) (p : Nat) (px : Pixel), s[p]? = some px →
    (portBytes s)[4 * p]? = some px.r ∧ (portBytes s)[4 * p + 1]? = some px.g ∧
    (portBytes s)[4 * p + 2]? = some px.b ∧ (portBytes s)[4 * p + 3]? = some px.w) ∧
  (∀ s : Strip, (portBytes s).length = 4 * s.length ∧ stripOfPort (portBytes s) = some s) ∧
  (∀ b : List Byte, b.length % 4 = 0 → ∃ s, stripOfPort b = some s ∧ portBytes s = b) ∧
  (∀ b : List Byte, b.length % 4 ≠ 0 → stripOfPort b = none)

/-- R270: what reset leaves, for every field the spec names. -/
def Obligations.ResetLeavesTheStatedValues : Prop :=
  State.reset.cfg = none ∧ State.reset.drv = .off ∧ State.reset.result = 0x00 ∧ State.reset.errInfo = 0 ∧
  State.reset.warnCap = false ∧ State.reset.status = 0x0000 ∧ State.reset.handle = none ∧
  State.reset.pending = none ∧ State.reset.faultConcurrent = false ∧ State.reset.refused = false ∧
  State.reset.txbuf = none ∧ State.reset.testReg = .none ∧ State.reset.wire = [] ∧ State.reset.lastGood = none

/-! ## Frames -/

/-- NOP, an illegal word and the four test-mode commands write RESULT, ERR_INFO and, the test-mode commands, TEST_REG;
every other register, every port, and every byte of TXBUF is as before. Only the concurrency fault sets
FAULT_CONCURRENT (R38, R81, R225, R226, R230). -/
def Obligations.TestCommandsTouchOnlyTheirRegisters : Prop :=
  ∀ (i : Instr) (s t : State),
    (i = .nop ∨ (∃ w, i = .illegal w) ∨ (∃ v bo, i = .tEncode v bo) ∨ i = .tSerialize ∨ (∃ inv, i = .tInvert inv) ∨
      i = .tMap) → exec i s = .next t →
    t.cfg = s.cfg ∧ t.drv = s.drv ∧ t.warnCap = s.warnCap ∧ t.handle = s.handle ∧ t.pending = s.pending ∧
    t.txbuf = s.txbuf ∧ (∀ a, t.bufferByte a = s.bufferByte a) ∧ t.refused = s.refused ∧ t.wire = s.wire ∧
    t.lastGood = s.lastGood ∧ t.configPort = s.configPort ∧ t.pixelPort = s.pixelPort ∧ t.pinTable = s.pinTable ∧
    t.claimAnswer = s.claimAnswer ∧ t.writeAnswer = s.writeAnswer ∧ t.draws = s.draws ∧ t.agenda = s.agenda ∧
    t.issuer = s.issuer ∧ t.renderThread = s.renderThread ∧ t.lastRead = s.lastRead ∧
    (Ready s → t.faultConcurrent = s.faultConcurrent ∧ t.hung = s.hung) ∧
    (InFlight s → t.result = s.result ∧ t.errInfo = s.errInfo ∧ t.testReg = s.testReg) ∧
    (i = .nop ∨ (∃ w, i = .illegal w) → t.testReg = s.testReg)

/-- INIT, RENDER and SHUTDOWN store no byte, send nothing and commit nothing: WIRE, LAST_GOOD and the ports stay, INIT
and SHUTDOWN leave PENDING and REFUSED, RENDER leaves CFG, HANDLE, TXBUF, TEST_REG and WARN_CAP; a buffer that INIT
makes holds no specified byte, and RENDER leaves every byte of TXBUF (R38, R203, R210, R220). -/
def Obligations.DriverCommandsSendAndStoreNothing : Prop :=
  ∀ (i : Instr) (s t : State), (i = .init ∨ i = .render ∨ i = .shutdown) → exec i s = .next t →
    t.wire = s.wire ∧ t.lastGood = s.lastGood ∧ t.configPort = s.configPort ∧ t.pixelPort = s.pixelPort ∧
    t.pinTable = s.pinTable ∧ t.writeAnswer = s.writeAnswer ∧ t.agenda = s.agenda ∧ t.issuer = s.issuer ∧
    t.lastRead = s.lastRead ∧
    (Ready s → t.faultConcurrent = s.faultConcurrent) ∧
    (i ≠ .render → t.pending = s.pending ∧ t.refused = s.refused ∧ t.renderThread = s.renderThread) ∧
    (i ≠ .init → t.claimAnswer = s.claimAnswer ∧ t.draws = s.draws) ∧
    (i = .render → t.cfg = s.cfg ∧ t.handle = s.handle ∧ t.warnCap = s.warnCap ∧ t.testReg = s.testReg ∧
      ∀ a, t.bufferByte a = s.bufferByte a) ∧
    (i = .init → t.txbuf ≠ s.txbuf → ∀ a, t.bufferByte a = none) ∧
    (i = .shutdown → s.drv = .idle → t.txbuf = none)

/-- A stage of a render leaves CFG, HANDLE, WARN_CAP, TEST_REG, the ports and the sticky marks as they were, and stores
only the pending frame: from index 0 on, as many bytes as the frame has; every other byte of TXBUF is as before. A frame
that overflows stores nothing, and neither does the Transmitting stage (R60, R62, R68, R176, R211, R212). -/
def Obligations.StagesStoreOnlyThePendingFrame : Prop :=
  ∀ (k : Kind) (i : Instr) (s t : State) (c : ConfigRecord), IsStage k i → s.cfg = some c → exec i s = .next t →
    t.cfg = s.cfg ∧ t.handle = s.handle ∧ t.warnCap = s.warnCap ∧ t.testReg = s.testReg ∧
    t.faultConcurrent = s.faultConcurrent ∧ t.refused = s.refused ∧ t.configPort = s.configPort ∧
    t.pixelPort = s.pixelPort ∧ t.pinTable = s.pinTable ∧ t.claimAnswer = s.claimAnswer ∧ t.agenda = s.agenda ∧
    t.issuer = s.issuer ∧ t.hung = s.hung ∧ t.lastRead = s.lastRead ∧
    (s.drv = .encoding → t.wire = s.wire ∧ t.lastGood = s.lastGood ∧ t.writeAnswer = s.writeAnswer ∧
      t.draws = s.draws) ∧
    (s.drv = .transmitting → ∀ a, t.bufferByte a = s.bufferByte a) ∧
    (∀ p f, s.drv = .encoding → s.pending = some p → renderFrame c p.strip = some f →
      (c.capacity.toNat < (bytesOf k c f).length → t.txbuf = s.txbuf) ∧
      ∀ a, (bytesOf k c f).length ≤ a → t.bufferByte a = s.bufferByte a)

/-! ## Invariants and whole-machine rules -/

/-- Every step from a state that meets the invariant gives one that meets it. -/
def Obligations.EveryStepKeepsTheInvariant : Prop := ∀ s t : State, Consistent s → step s = .next t → Consistent t

/-- The state after reset meets the invariant. -/
def Obligations.ResetMeetsTheInvariant : Prop := Consistent State.reset

/-- From a state that meets the invariant the machine never stops: every step answers a next state (R246: errors,
the fault mark and the refusal mark all let the block go on). -/
def Obligations.TheMachineNeverStops : Prop := ∀ s : State, Consistent s → ∃ t, step s = .next t

/-- R25: the codes of STATE, its reset value, and its transitions, which are exactly those of the rule. -/
def Obligations.StateMovesOnlyAsTheRuleSays : Prop :=
  DriverState.off.code = 0 ∧ DriverState.idle.code = 1 ∧ DriverState.encoding.code = 2 ∧
  DriverState.transmitting.code = 3 ∧ State.reset.drv = .off ∧
  (∀ s, Consistent s → s.drv = .off → s.handle = none ∧ s.cfg = none) ∧
  ∀ s t : State, Consistent s → step s = .next t → t.drv ≠ s.drv → ∃ i u, nextTurn s = .run i u ∧
    ((s.drv = .off ∧ t.drv = .idle ∧ i = .init ∧ t.result = 0x00) ∨
     (s.drv = .idle ∧ t.drv = .encoding ∧ i = .render) ∨
     (s.drv = .encoding ∧ t.drv = .idle ∧ (∃ k, IsStage k i) ∧ t.result = 0x02) ∨
     (s.drv = .encoding ∧ t.drv = .transmitting ∧ (∃ k, IsStage k i) ∧ t.result = s.result ∧
       ∃ c p e, s.cfg = some c ∧ t.pending = some { strip := p, encoded := some e } ∧
         e.bytes.length ≤ c.capacity.toNat) ∨
     (s.drv = .transmitting ∧ t.drv = .idle ∧ (∃ k, IsStage k i) ∧ (t.result = 0x00 ∨ t.result = 0x04)) ∨
     (s.drv = .idle ∧ t.drv = .off ∧ i = .shutdown))

/-- R23: CFG changes only by an INIT in OFF, to the whole legal record of the config port, and by a SHUTDOWN, to
none. -/
def Obligations.ConfigurationIsFixedUntilShutdown : Prop :=
  ∀ s t : State, step s = .next t → t.cfg ≠ s.cfg → ∃ i u, nextTurn s = .run i u ∧
    ((i = .init ∧ s.drv = .off ∧ t.cfg = some s.configPort ∧ ∃ k, checkConfig s.pinOk s.configPort = .legal k) ∨
     (i = .shutdown ∧ s.drv = .idle ∧ t.cfg = none))

/-- R32: FAULT_CONCURRENT is 0 at reset, is set exactly by a command word issued while a render is in flight, and is
never cleared. -/
def Obligations.ConcurrencyFaultIsStickyAndExact : Prop :=
  State.reset.faultConcurrent = false ∧
  ∀ s t : State, step s = .next t → (t.faultConcurrent = true ↔ s.faultConcurrent = true ∨
    (InFlight s ∧ ∃ w u, nextTurn s = .run (decode w) u))

/-- R33: REFUSED is 0 at reset, is set exactly by a RENDER in IDLE whose strip is not LED_COUNT long, and is never
cleared. -/
def Obligations.RefusalMarkIsStickyAndExact : Prop :=
  State.reset.refused = false ∧
  ∀ s t : State, step s = .next t → (t.refused = true ↔ s.refused = true ∨
    ∃ u c, nextTurn s = .run .render u ∧ s.drv = .idle ∧ s.cfg = some c ∧ s.pixelPort.length ≠ c.ledCount.toNat)

/-- R37, R213, R216: a step changes LAST_GOOD only by committing the pending strip and its bytes after the whole frame
went out; so no failed render and no other command changes it. -/
def Obligations.LastGoodChangesOnlyByACommit : Prop :=
  State.reset.lastGood = none ∧
  ∀ s t : State, Consistent s → step s = .next t → t.lastGood = s.lastGood ∨
    ∃ p e k, s.drv = .transmitting ∧ s.pending = some { strip := p, encoded := some e } ∧
      t.lastGood = some (p, e.bytes) ∧ t.wire = s.wire ++ [⟨k, e.bytes, .ok⟩] ∧ t.result = 0x00

/-- R36, R180: WIRE is empty at reset and append-only; one entry is added per physical write, of a prefix of the pending
bytes, whole when the answer is ok; no other step touches it. -/
def Obligations.WireOnlyGrowsByPhysicalWrites : Prop :=
  State.reset.wire = [] ∧
  ∀ s t : State, Consistent s → step s = .next t → t.wire = s.wire ∨
    ∃ p e k en, s.drv = .transmitting ∧ s.pending = some { strip := p, encoded := some e } ∧
      t.wire = s.wire ++ [en] ∧ en.kind = k ∧ cfgKind s.cfg = some k ∧ en.sent <+: e.bytes ∧
      (en.outcome = .ok → en.sent = e.bytes)

/-- R8, R20: CLAIMED_ELSEWHERE is drawn once for each INIT that is executed and PHYS_OUTCOME once for each physical
write; a loaded answer is used up by that draw and by nothing else, and a step loads at most the one its event says. The
counter of the free values is the model's own (log entry 4), and so is how loaded answers stand for the draws (log
entries 2 and 3). -/
def Obligations.EachAnswerIsUsedOnce : Prop :=
  ∀ s t : State, step s = .next t →
    (t.draws = s.draws ∧
      (∀ u, nextTurn s = .run .init u → InFlight s) ∧
      (t.claimAnswer = s.claimAnswer ∨
        ∃ th b rest, s.agenda = .act th (.answerClaim b) :: rest ∧ t.claimAnswer = some b) ∧
      (t.writeAnswer = s.writeAnswer ∨
        ∃ th a rest, s.agenda = .act th (.answerWrite a) :: rest ∧ t.writeAnswer = some a)) ∨
    (t.draws = s.draws + 1 ∧
      ((Ready s ∧ (∃ u, nextTurn s = .run .init u) ∧ t.claimAnswer = none ∧ t.writeAnswer = s.writeAnswer) ∨
       (s.drv = .transmitting ∧ t.drv = .idle ∧ t.writeAnswer = none ∧ t.claimAnswer = s.claimAnswer)))

/-- R26, R27, R72: RESULT and ERR_INFO are written exactly when a command completes, and the registers then hold what
its thread is given: the thread whose word was accepted in OFF or IDLE, or the thread of the render in flight. The list
of completed commands is the model's record of what R231 lets an observer see (log entry 24). -/
def Obligations.ResultsAreWrittenByCompletionsOnly : Prop :=
  ∀ s t : State, step s = .next t →
    (t.completions = s.completions ∧ t.result = s.result ∧ t.errInfo = s.errInfo) ∨
    ∃ th, t.completions = s.completions ++ [⟨th, t.result, t.errInfo⟩] ∧
      ((Ready s ∧ ∃ w rest, s.agenda = .act th (.issue w) :: rest) ∨
       (InFlight s ∧ th = s.renderThread.getD s.issuer))

/-- R35: TEST_REG is none at reset, and a step changes it only by a test-mode command that ends OK, by INIT, or by
SHUTDOWN, the last two to none; RENDER and its stages never do. -/
def Obligations.TestRegIsWrittenByTestCommandsOnly : Prop :=
  State.reset.testReg = .none ∧
  ∀ s t : State, step s = .next t → t.testReg ≠ s.testReg → ∃ i u, nextTurn s = .run i u ∧ t.result = 0x00 ∧
    ((∃ v bo f, i = .tEncode v bo ∧ t.testReg = .syms f) ∨ (∃ f, i = .tSerialize ∧ t.testReg = .syms f) ∨
     (∃ inv f, i = .tInvert inv ∧ t.testReg = .syms f) ∨ (∃ k b, i = .tMap ∧ t.testReg = .units k b) ∨
     ((i = .init ∨ i = .shutdown) ∧ t.testReg = .none))

/-- R215: the outcome of a render is a function of CFG, the strip and the peripheral's answer alone: two machines that
agree on these, whatever else they hold, end with the same RESULT and ERR_INFO, log the same WIRE entries, and when the
render ended OK show the same LAST_GOOD. -/
def Obligations.RenderDependsOnlyOnConfigStripAndAnswer : Prop :=
  ∀ (k : Kind) (i : Instr) (s₁ s₂ u₁ u₂ v₁ v₂ t₁ t₂ : State), IsStage k i →
    s₁.drv = .idle → s₂.drv = .idle → s₁.cfg = s₂.cfg → s₁.pixelPort = s₂.pixelPort →
    s₁.writeAnswer.getD (Config.physOutcome s₁.draws) = s₂.writeAnswer.getD (Config.physOutcome s₂.draws) →
    exec .render s₁ = .next u₁ → exec .render s₂ = .next u₂ → u₁.drv = .encoding →
    exec i u₁ = .next v₁ → exec i u₂ = .next v₂ →
    (v₁.drv = v₂.drv ∧ (v₁.drv = .idle → v₁.result = v₂.result ∧ v₁.errInfo = v₂.errInfo ∧ v₁.wire = s₁.wire ∧
      v₂.wire = s₂.wire)) ∧
    (v₁.drv = .transmitting → exec i v₁ = .next t₁ → exec i v₂ = .next t₂ →
      t₁.result = t₂.result ∧ t₁.errInfo = t₂.errInfo ∧
      (∃ en, t₁.wire = s₁.wire ++ [en] ∧ t₂.wire = s₂.wire ++ [en]) ∧
      (t₁.result = 0x00 → t₁.lastGood = t₂.lastGood))

/-- R204, R211: the warning of INIT is exact: in a reachable IDLE state WARN_CAP is set iff the Encoding stage of the
next legal RENDER rejects its frame, whatever the pixels are. -/
def Obligations.CapacityWarningPredictsTheOverflow : Prop :=
  ∀ (s u v : State) (k : Kind) (i : Instr), Consistent s → s.drv = .idle → IsStage k i → exec .render s = .next u →
    u.drv = .encoding → exec i u = .next v → (s.warnCap = true ↔ v.result = 0x02 ∧ v.drv = .idle)

/-- R211, R137, R153, R185: the test path reproduces the render's bytes: T_SERIALIZE, T_INVERT by CFG.INVERT and T_MAP on
the strip on the port leave in TEST_REG exactly the bytes that a RENDER of that strip makes pending. -/
def Obligations.TestCommandsReproduceTheRenderedBytes : Prop :=
  ∀ (s a b d u v : State) (c : ConfigRecord) (k : Kind) (i : Instr), s.drv = .idle → Configured s c k → IsStage k i →
    exec .tSerialize s = .next a → a.result = 0x00 → exec (.tInvert c.invert) a = .next b →
    exec .tMap b = .next d → d.result = 0x00 → exec .render s = .next u → exec i u = .next v →
    v.drv = .transmitting → ∃ p e, v.pending = some { strip := p, encoded := some e } ∧ p = s.pixelPort ∧
      d.testReg = .units k e.bytes ∧ ∀ j, j < e.bytes.length → v.bufferByte j = e.bytes[j]?

/-! ## The units: encode, serialize, apply -/

/-- R110, R111, R112: symbol j of encode(v, bo) stands for bit 7 - j of v with MSB and for bit j with LSB; and the laws:
length, number of ONEs, reversal, the constant values, injectivity. -/
def Obligations.EncodeEmitsTheBitsInOrder : Prop :=
  (∀ (v : Byte) (j : Nat), j < 8 →
    (encodeChannel v .msb)[j]? = some (if v.getLsbD (7 - j) then .one else .zero) ∧
    (encodeChannel v .lsb)[j]? = some (if v.getLsbD j then .one else .zero)) ∧
  (∀ v bo, (encodeChannel v bo).length = 8) ∧
  (∀ v bo, (encodeChannel v bo).count .one = (List.range 8).countP fun j => v.getLsbD j) ∧
  (∀ v, encodeChannel v .lsb = (encodeChannel v .msb).reverse) ∧
  (∀ bo, encodeChannel 0x00 bo = List.replicate 8 .zero ∧ encodeChannel 0xFF bo = List.replicate 8 .one) ∧
  (∀ v v' bo, encodeChannel v bo = encodeChannel v' bo → v = v')

/-- R113, R114: the reference decoder inverts encode in the same bit order, encode inverts it on every sequence it is
defined for, the other order gives the reversed bits, and any other sequence is refused. -/
def Obligations.ReferenceDecoderInvertsEncode : Prop :=
  (∀ v bo, refDecode (encodeFrame v bo) bo = some v) ∧
  (∀ s bo, s.length = 8 → FrameSym.idle ∉ s → ∃ v, refDecode s bo = some v ∧ encodeFrame v bo = s) ∧
  (∀ v, ∃ u : Byte, refDecode (encodeFrame v .msb) .lsb = some u ∧ ∀ j, j < 8 → u.getLsbD j = v.getLsbD (7 - j)) ∧
  (∀ s bo, s.length ≠ 8 ∨ FrameSym.idle ∈ s → refDecode s bo = none)

/-- R134, R136: serialize succeeds exactly on a valid order, and its frame has lead + 32·L + trail symbols whatever the
pixels and the bit order are. -/
def Obligations.SerializedLengthIgnoresThePixels : Prop :=
  ∀ (strip : Strip) (order : BitVec 8) (bo : BitOrder) (lead trail : Nat),
    ((orderChannels order).Nodup → ∃ f, serialize strip order bo lead trail = some f ∧
      f.length = lead + 32 * strip.length + trail) ∧
    (¬ (orderChannels order).Nodup → serialize strip order bo lead trail = none)

/-- R138: where each data symbol of a frame comes from, and which symbols are IDLE. -/
def Obligations.EverySymbolHasItsPlace : Prop :=
  ∀ (strip : Strip) (order : BitVec 8) (bo : BitOrder) (lead trail : Nat) (f : Frame),
    serialize strip order bo lead trail = some f →
    (∀ p j i px, strip[p]? = some px → j < 4 → i < 8 →
      f[lead + 32 * p + 8 * j + i]? = ((encodeChannel (chan px (orderAt order j)) bo)[i]?).map symToFrame) ∧
    (∀ n : Nat, f[n]? = some .idle ↔ n < lead ∨ (lead + 32 * strip.length ≤ n ∧ n < lead + 32 * strip.length + trail))

/-- R139: two valid orders send the same four 8-symbol channel blocks of a pixel in another order: block j under the one
is the block, under the other, of the slot that names the same channel. -/
def Obligations.ChannelOrderPermutesWholeBlocks : Prop :=
  ∀ (o₁ o₂ : BitVec 8) (bo : BitOrder) (px : Pixel), perm o₁ = true → perm o₂ = true →
    (∀ j, j < 4 → ∃ j', j' < 4 ∧ orderAt o₁ j' = orderAt o₂ j ∧
      ((pixelFrame o₂ bo px).drop (8 * j)).take 8 = ((pixelFrame o₁ bo px).drop (8 * j')).take 8) ∧
    ((orderChannels o₁).map fun ch => encodeFrame (chan px ch) bo).Perm
      ((orderChannels o₂).map fun ch => encodeFrame (chan px ch) bo)

/-- R135: inside the block serialize never fails: in every state that meets the invariant a loaded CFG.ORDER is
valid. -/
def Obligations.SerializeNeverFailsInTheBlock : Prop :=
  ∀ (s : State) (c : ConfigRecord) (p : Strip), Consistent s → s.cfg = some c → ∃ f, serializeCfg c p = some f

/-- R152: apply is an involution, does nothing when off, keeps the length and the IDLE positions, is the complement of
the channel value on a channel block, and commutes with concatenation. -/
def Obligations.InversionLaws : Prop :=
  (∀ s, applyInversion (applyInversion s true) true = s) ∧
  (∀ s, applyInversion s false = s) ∧
  (∀ (s : Frame) (inv : Bool), (applyInversion s inv).length = s.length ∧
    ∀ n : Nat, (applyInversion s inv)[n]? = some FrameSym.idle ↔ s[n]? = some FrameSym.idle) ∧
  (∀ v bo, applyInversion (encodeFrame v bo) true = encodeFrame (v ^^^ 0xFF) bo) ∧
  (∀ s t inv, applyInversion (s ++ t) inv = applyInversion s inv ++ applyInversion t inv)

/-! ## The transports -/

/-- R10, R165, R167, R169: ceil_div is the least quotient, and the byte count of a frame for each kind. PCM_SPS is at
most 16 in every legal record (check 12 of R202). -/
def Obligations.ByteCountsOfTheTransports : Prop :=
  (∀ a b q : Nat, 1 ≤ b → (ceilDiv a b ≤ q ↔ a ≤ q * b)) ∧
  ∀ (c : ConfigRecord) (s : Frame),
    (bytesOf .spi c s).length = ceilDiv (s.length * c.spiBps.toNat) 8 ∧
    (bytesOf .pwm c s).length = s.length * c.pwmWordBytes.toNat ∧
    (c.pcmSps.toNat ≤ 16 → (bytesOf .pcm c s).length = s.length * c.pcmSps.toNat * c.pcmSampleBytes.toNat)

/-- R175: the byte count of a strip's frame is frameBytes(kind, L): it depends on L, the kind and the configuration, not
on the pixel values or the inversion flag. -/
def Obligations.FrameBytesDependOnLengthOnly : Prop :=
  ∀ (k : Kind) (c : ConfigRecord) (p : Strip) (f : Frame) (inv : Bool), (k = .pcm → c.pcmSps.toNat ≤ 16) →
    serializeCfg c p = some f →
    (bytesOf k c (applyInversion f inv)).length = frameBytes k c p.length ∧
    (k = .spi → frameBytes k c p.length =
      ceilDiv ((c.leadIdle.toNat + 32 * p.length + c.trailIdle.toNat) * c.spiBps.toNat) 8) ∧
    (k = .pwm → frameBytes k c p.length =
      (c.leadIdle.toNat + 32 * p.length + c.trailIdle.toNat) * c.pwmWordBytes.toNat) ∧
    (k = .pcm → frameBytes k c p.length =
      (c.leadIdle.toNat + 32 * p.length + c.trailIdle.toNat) * c.pcmSps.toNat * c.pcmSampleBytes.toNat)

/-- R64, R163, R164: sent bit 7 first, the SPI bytes of a frame put on the line the patterns of its symbols in order,
then fewer than 8 idle bits. -/
def Obligations.SpiLineCarriesThePatterns : Prop :=
  ∀ (c : ConfigRecord) (s : Frame), ∃ pad, pad < 8 ∧
    spiLine (bytesOf .spi c s) = (s.flatMap fun x => match x with
      | .one => (List.range c.spiBps.toNat).map fun t => c.spiPatOne.getLsbD (c.spiBps.toNat - 1 - t)
      | .zero => (List.range c.spiBps.toNat).map fun t => c.spiPatZero.getLsbD (c.spiBps.toNat - 1 - t)
      | .idle => List.replicate c.spiBps.toNat c.spiIdleBit) ++ List.replicate pad c.spiIdleBit

/-- R166, R168, R170, R62, R63: byte k of the PWM word of symbol i is bits [8k+7:8k] of the duty word the configuration
gives that symbol, at index i·w + k; byte k of PCM sample t of symbol i is those bits of entry t of its sequence, at
index (i·PCM_SPS + t)·w + k. PCM_SPS is at most 16 in every legal record (check 12 of R202). -/
def Obligations.PwmAndPcmUnitsAreLaidOutLittleEndian : Prop :=
  ∀ (c : ConfigRecord) (s : Frame) (i : Nat) (x : FrameSym), s[i]? = some x →
    (∀ k, k < c.pwmWordBytes.toNat → (bytesOf .pwm c s)[i * c.pwmWordBytes.toNat + k]? =
      some ((match x with
        | .one => c.pwmDutyOne
        | .zero => c.pwmDutyZero
        | .idle => c.pwmDutyIdle).extractLsb' (8 * k) 8)) ∧
    (c.pcmSps.toNat ≤ 16 → ∀ (t : Fin 16) (k : Nat), t.val < c.pcmSps.toNat → k < c.pcmSampleBytes.toNat →
      (bytesOf .pcm c s)[(i * c.pcmSps.toNat + t.val) * c.pcmSampleBytes.toNat + k]? =
        some ((match x with
          | .one => c.pcmSeqOne[t]
          | .zero => c.pcmSeqZero[t]
          | .idle => c.pcmSeqIdle[t]).extractLsb' (8 * k) 8))

/-- R183: with the default patterns and the idle lengths of P0 a strip of L pixels needs 16·L + 16 bytes, so 255 pixels
are the most that fit 4096 bytes and 4095 the most that fit 65536; 300 pixels need 4816 bytes. -/
def Obligations.SpiCapacityBoundary : Prop :=
  ∀ (c : ConfigRecord), c.spiBps = 4 → c.leadIdle = 0 → c.trailIdle = 32 →
    (∀ n, frameBytes .spi c n = 16 * n + 16) ∧
    (∀ n, frameBytes .spi c n ≤ 4096 ↔ n ≤ 255) ∧ (∀ n, frameBytes .spi c n ≤ 65536 ↔ n ≤ 4095) ∧
    frameBytes .spi c 300 = 4816

/-- R202 ("are what keep the §8 round trip true on the line"): under a legal configuration the bytes on the line
determine the pixels: two strips of one length whose frames have the same bytes are the same strip. -/
def Obligations.BytesOnTheLineDetermineTheStrip : Prop :=
  ∀ (pinOk : Kind → Word32 → Bool) (c : ConfigRecord) (k : Kind) (p q : Strip) (f g : Frame),
    checkConfig pinOk c = .legal k → p.length = q.length → renderFrame c p = some f → renderFrame c q = some g →
    bytesOf k c f = bytesOf k c g → p = q

/-- R63, with R62, R177 and R211: a unit of n bytes written inside TXBUF is stored little-endian, reads back as its
value, and leaves every other byte and the size of the buffer alone; a write outside the buffer does not happen. The
frame that the Encoding stage writes byte by byte from index 0 reads back unit by unit as its duty words or samples. -/
def Obligations.UnitsAreStoredLittleEndian : Prop :=
  (∀ (m : Memory) (i n v : Nat), v < 2 ^ (8 * n) →
    (i + n ≤ m.size → ∃ m', m.memWrite i n v = some m' ∧ m'.memRead i n = some v ∧ m'.size = m.size ∧
      (∀ j, j < n → m'.byte (i + j) = some (BitVec.ofNat 8 (v / 2 ^ (8 * j)))) ∧
      (∀ a, a < i ∨ i + n ≤ a → m'.byte a = m.byte a)) ∧
    (m.size < i + n → 0 < n → m.memWrite i n v = none)) ∧
  ∀ (m m' : Memory) (c : ConfigRecord) (s : Frame) (i : Nat) (x : FrameSym), s[i]? = some x →
    (m.fill 0 (bytesOf .pwm c s) = some m' → m'.memRead (i * c.pwmWordBytes.toNat) c.pwmWordBytes.toNat =
      some ((duty c x).toNat % 2 ^ (8 * c.pwmWordBytes.toNat))) ∧
    (m.fill 0 (bytesOf .pcm c s) = some m' → c.pcmSps.toNat ≤ 16 → ∀ (t : Nat) (v : Word32),
      (pcmSeq c x)[t]? = some v →
      m'.memRead ((i * c.pcmSps.toNat + t) * c.pcmSampleBytes.toNat) c.pcmSampleBytes.toNat =
        some (v.toNat % 2 ^ (8 * c.pcmSampleBytes.toNat)))
end

