-- ==== Sys2Proof/Laws/State.lean ====
section
/-! SUPPORT. The small lemmas of the state updates: one per field per update, so that no proof unfolds a record update. -/

namespace Sys2Proof.Machine

/-! ## complete -/

@[simp] theorem State.complete_cfg (s : State) (t : Nat) (r : CmdResult) (info : Word32) :
    (s.complete t r info).cfg = s.cfg := rfl
@[simp] theorem State.complete_drv (s : State) (t : Nat) (r : CmdResult) (info : Word32) :
    (s.complete t r info).drv = s.drv := rfl
@[simp] theorem State.complete_result (s : State) (t : Nat) (r : CmdResult) (info : Word32) :
    (s.complete t r info).result = r.bits := rfl
@[simp] theorem State.complete_errInfo (s : State) (t : Nat) (r : CmdResult) (info : Word32) :
    (s.complete t r info).errInfo = info := rfl
@[simp] theorem State.complete_warnCap (s : State) (t : Nat) (r : CmdResult) (info : Word32) :
    (s.complete t r info).warnCap = s.warnCap := rfl
@[simp] theorem State.complete_handle (s : State) (t : Nat) (r : CmdResult) (info : Word32) :
    (s.complete t r info).handle = s.handle := rfl
@[simp] theorem State.complete_pending (s : State) (t : Nat) (r : CmdResult) (info : Word32) :
    (s.complete t r info).pending = s.pending := rfl
@[simp] theorem State.complete_txbuf (s : State) (t : Nat) (r : CmdResult) (info : Word32) :
    (s.complete t r info).txbuf = s.txbuf := rfl
@[simp] theorem State.complete_testReg (s : State) (t : Nat) (r : CmdResult) (info : Word32) :
    (s.complete t r info).testReg = s.testReg := rfl
@[simp] theorem State.complete_faultConcurrent (s : State) (t : Nat) (r : CmdResult) (info : Word32) :
    (s.complete t r info).faultConcurrent = s.faultConcurrent := rfl
@[simp] theorem State.complete_refused (s : State) (t : Nat) (r : CmdResult) (info : Word32) :
    (s.complete t r info).refused = s.refused := rfl
@[simp] theorem State.complete_wire (s : State) (t : Nat) (r : CmdResult) (info : Word32) :
    (s.complete t r info).wire = s.wire := rfl
@[simp] theorem State.complete_lastGood (s : State) (t : Nat) (r : CmdResult) (info : Word32) :
    (s.complete t r info).lastGood = s.lastGood := rfl
@[simp] theorem State.complete_configPort (s : State) (t : Nat) (r : CmdResult) (info : Word32) :
    (s.complete t r info).configPort = s.configPort := rfl
@[simp] theorem State.complete_pixelPort (s : State) (t : Nat) (r : CmdResult) (info : Word32) :
    (s.complete t r info).pixelPort = s.pixelPort := rfl
@[simp] theorem State.complete_pinTable (s : State) (t : Nat) (r : CmdResult) (info : Word32) :
    (s.complete t r info).pinTable = s.pinTable := rfl
@[simp] theorem State.complete_claimAnswer (s : State) (t : Nat) (r : CmdResult) (info : Word32) :
    (s.complete t r info).claimAnswer = s.claimAnswer := rfl
@[simp] theorem State.complete_writeAnswer (s : State) (t : Nat) (r : CmdResult) (info : Word32) :
    (s.complete t r info).writeAnswer = s.writeAnswer := rfl
@[simp] theorem State.complete_draws (s : State) (t : Nat) (r : CmdResult) (info : Word32) :
    (s.complete t r info).draws = s.draws := rfl
@[simp] theorem State.complete_agenda (s : State) (t : Nat) (r : CmdResult) (info : Word32) :
    (s.complete t r info).agenda = s.agenda := rfl
@[simp] theorem State.complete_issuer (s : State) (t : Nat) (r : CmdResult) (info : Word32) :
    (s.complete t r info).issuer = s.issuer := rfl
@[simp] theorem State.complete_renderThread (s : State) (t : Nat) (r : CmdResult) (info : Word32) :
    (s.complete t r info).renderThread = s.renderThread := rfl
@[simp] theorem State.complete_hung (s : State) (t : Nat) (r : CmdResult) (info : Word32) :
    (s.complete t r info).hung = s.hung := rfl
@[simp] theorem State.complete_completions (s : State) (t : Nat) (r : CmdResult) (info : Word32) :
    (s.complete t r info).completions = s.completions ++ [{ thread := t, result := r.bits, errInfo := info }] := rfl
@[simp] theorem State.complete_lastRead (s : State) (t : Nat) (r : CmdResult) (info : Word32) :
    (s.complete t r info).lastRead = s.lastRead := rfl

/-! ## completeOk -/

@[simp] theorem State.completeOk_cfg (s : State) : s.completeOk.cfg = s.cfg := rfl
@[simp] theorem State.completeOk_drv (s : State) : s.completeOk.drv = s.drv := rfl
@[simp] theorem State.completeOk_result (s : State) : s.completeOk.result = CmdResult.ok.bits := rfl
@[simp] theorem State.completeOk_errInfo (s : State) : s.completeOk.errInfo = 0 := rfl
@[simp] theorem State.completeOk_warnCap (s : State) : s.completeOk.warnCap = s.warnCap := rfl
@[simp] theorem State.completeOk_handle (s : State) : s.completeOk.handle = s.handle := rfl
@[simp] theorem State.completeOk_pending (s : State) : s.completeOk.pending = s.pending := rfl
@[simp] theorem State.completeOk_txbuf (s : State) : s.completeOk.txbuf = s.txbuf := rfl
@[simp] theorem State.completeOk_testReg (s : State) : s.completeOk.testReg = s.testReg := rfl
@[simp] theorem State.completeOk_faultConcurrent (s : State) : s.completeOk.faultConcurrent = s.faultConcurrent := rfl
@[simp] theorem State.completeOk_refused (s : State) : s.completeOk.refused = s.refused := rfl
@[simp] theorem State.completeOk_wire (s : State) : s.completeOk.wire = s.wire := rfl
@[simp] theorem State.completeOk_lastGood (s : State) : s.completeOk.lastGood = s.lastGood := rfl
@[simp] theorem State.completeOk_configPort (s : State) : s.completeOk.configPort = s.configPort := rfl
@[simp] theorem State.completeOk_pixelPort (s : State) : s.completeOk.pixelPort = s.pixelPort := rfl
@[simp] theorem State.completeOk_pinTable (s : State) : s.completeOk.pinTable = s.pinTable := rfl
@[simp] theorem State.completeOk_claimAnswer (s : State) : s.completeOk.claimAnswer = s.claimAnswer := rfl
@[simp] theorem State.completeOk_writeAnswer (s : State) : s.completeOk.writeAnswer = s.writeAnswer := rfl
@[simp] theorem State.completeOk_draws (s : State) : s.completeOk.draws = s.draws := rfl
@[simp] theorem State.completeOk_agenda (s : State) : s.completeOk.agenda = s.agenda := rfl
@[simp] theorem State.completeOk_issuer (s : State) : s.completeOk.issuer = s.issuer := rfl
@[simp] theorem State.completeOk_renderThread (s : State) : s.completeOk.renderThread = s.renderThread := rfl
@[simp] theorem State.completeOk_hung (s : State) : s.completeOk.hung = s.hung := rfl
@[simp] theorem State.completeOk_completions (s : State) :
    s.completeOk.completions = s.completions ++ [{ thread := s.issuer, result := CmdResult.ok.bits, errInfo := 0 }] := rfl
@[simp] theorem State.completeOk_lastRead (s : State) : s.completeOk.lastRead = s.lastRead := rfl

/-! ## markConcurrent -/

@[simp] theorem State.markConcurrent_cfg (s : State) : s.markConcurrent.cfg = s.cfg := rfl
@[simp] theorem State.markConcurrent_drv (s : State) : s.markConcurrent.drv = s.drv := rfl
@[simp] theorem State.markConcurrent_result (s : State) : s.markConcurrent.result = s.result := rfl
@[simp] theorem State.markConcurrent_errInfo (s : State) : s.markConcurrent.errInfo = s.errInfo := rfl
@[simp] theorem State.markConcurrent_warnCap (s : State) : s.markConcurrent.warnCap = s.warnCap := rfl
@[simp] theorem State.markConcurrent_handle (s : State) : s.markConcurrent.handle = s.handle := rfl
@[simp] theorem State.markConcurrent_pending (s : State) : s.markConcurrent.pending = s.pending := rfl
@[simp] theorem State.markConcurrent_txbuf (s : State) : s.markConcurrent.txbuf = s.txbuf := rfl
@[simp] theorem State.markConcurrent_testReg (s : State) : s.markConcurrent.testReg = s.testReg := rfl
@[simp] theorem State.markConcurrent_faultConcurrent (s : State) : s.markConcurrent.faultConcurrent = true := rfl
@[simp] theorem State.markConcurrent_refused (s : State) : s.markConcurrent.refused = s.refused := rfl
@[simp] theorem State.markConcurrent_wire (s : State) : s.markConcurrent.wire = s.wire := rfl
@[simp] theorem State.markConcurrent_lastGood (s : State) : s.markConcurrent.lastGood = s.lastGood := rfl
@[simp] theorem State.markConcurrent_configPort (s : State) : s.markConcurrent.configPort = s.configPort := rfl
@[simp] theorem State.markConcurrent_pixelPort (s : State) : s.markConcurrent.pixelPort = s.pixelPort := rfl
@[simp] theorem State.markConcurrent_pinTable (s : State) : s.markConcurrent.pinTable = s.pinTable := rfl
@[simp] theorem State.markConcurrent_claimAnswer (s : State) : s.markConcurrent.claimAnswer = s.claimAnswer := rfl
@[simp] theorem State.markConcurrent_writeAnswer (s : State) : s.markConcurrent.writeAnswer = s.writeAnswer := rfl
@[simp] theorem State.markConcurrent_draws (s : State) : s.markConcurrent.draws = s.draws := rfl
@[simp] theorem State.markConcurrent_agenda (s : State) : s.markConcurrent.agenda = s.agenda := rfl
@[simp] theorem State.markConcurrent_issuer (s : State) : s.markConcurrent.issuer = s.issuer := rfl
@[simp] theorem State.markConcurrent_renderThread (s : State) : s.markConcurrent.renderThread = s.renderThread := rfl
@[simp] theorem State.markConcurrent_hung (s : State) : s.markConcurrent.hung = s.issuer :: s.hung := rfl
@[simp] theorem State.markConcurrent_completions (s : State) : s.markConcurrent.completions = s.completions := rfl
@[simp] theorem State.markConcurrent_lastRead (s : State) : s.markConcurrent.lastRead = s.lastRead := rfl

/-! ## markRefused -/

@[simp] theorem State.markRefused_cfg (s : State) : s.markRefused.cfg = s.cfg := rfl
@[simp] theorem State.markRefused_drv (s : State) : s.markRefused.drv = s.drv := rfl
@[simp] theorem State.markRefused_result (s : State) : s.markRefused.result = s.result := rfl
@[simp] theorem State.markRefused_errInfo (s : State) : s.markRefused.errInfo = s.errInfo := rfl
@[simp] theorem State.markRefused_warnCap (s : State) : s.markRefused.warnCap = s.warnCap := rfl
@[simp] theorem State.markRefused_handle (s : State) : s.markRefused.handle = s.handle := rfl
@[simp] theorem State.markRefused_pending (s : State) : s.markRefused.pending = s.pending := rfl
@[simp] theorem State.markRefused_txbuf (s : State) : s.markRefused.txbuf = s.txbuf := rfl
@[simp] theorem State.markRefused_testReg (s : State) : s.markRefused.testReg = s.testReg := rfl
@[simp] theorem State.markRefused_faultConcurrent (s : State) :
    s.markRefused.faultConcurrent = s.faultConcurrent := rfl
@[simp] theorem State.markRefused_refused (s : State) : s.markRefused.refused = true := rfl
@[simp] theorem State.markRefused_wire (s : State) : s.markRefused.wire = s.wire := rfl
@[simp] theorem State.markRefused_lastGood (s : State) : s.markRefused.lastGood = s.lastGood := rfl
@[simp] theorem State.markRefused_configPort (s : State) : s.markRefused.configPort = s.configPort := rfl
@[simp] theorem State.markRefused_pixelPort (s : State) : s.markRefused.pixelPort = s.pixelPort := rfl
@[simp] theorem State.markRefused_pinTable (s : State) : s.markRefused.pinTable = s.pinTable := rfl
@[simp] theorem State.markRefused_claimAnswer (s : State) : s.markRefused.claimAnswer = s.claimAnswer := rfl
@[simp] theorem State.markRefused_writeAnswer (s : State) : s.markRefused.writeAnswer = s.writeAnswer := rfl
@[simp] theorem State.markRefused_draws (s : State) : s.markRefused.draws = s.draws := rfl
@[simp] theorem State.markRefused_agenda (s : State) : s.markRefused.agenda = s.agenda := rfl
@[simp] theorem State.markRefused_issuer (s : State) : s.markRefused.issuer = s.issuer := rfl
@[simp] theorem State.markRefused_renderThread (s : State) : s.markRefused.renderThread = s.renderThread := rfl
@[simp] theorem State.markRefused_hung (s : State) : s.markRefused.hung = s.issuer :: s.hung := rfl
@[simp] theorem State.markRefused_completions (s : State) : s.markRefused.completions = s.completions := rfl
@[simp] theorem State.markRefused_lastRead (s : State) : s.markRefused.lastRead = s.lastRead := rfl

/-! ## finishTest -/

@[simp] theorem State.finishTest_cfg (s : State) (v : TestReg) : (s.finishTest v).cfg = s.cfg := rfl
@[simp] theorem State.finishTest_drv (s : State) (v : TestReg) : (s.finishTest v).drv = s.drv := rfl
@[simp] theorem State.finishTest_result (s : State) (v : TestReg) : (s.finishTest v).result = CmdResult.ok.bits := rfl
@[simp] theorem State.finishTest_errInfo (s : State) (v : TestReg) : (s.finishTest v).errInfo = 0 := rfl
@[simp] theorem State.finishTest_warnCap (s : State) (v : TestReg) : (s.finishTest v).warnCap = s.warnCap := rfl
@[simp] theorem State.finishTest_handle (s : State) (v : TestReg) : (s.finishTest v).handle = s.handle := rfl
@[simp] theorem State.finishTest_pending (s : State) (v : TestReg) : (s.finishTest v).pending = s.pending := rfl
@[simp] theorem State.finishTest_txbuf (s : State) (v : TestReg) : (s.finishTest v).txbuf = s.txbuf := rfl
@[simp] theorem State.finishTest_testReg (s : State) (v : TestReg) : (s.finishTest v).testReg = v := rfl
@[simp] theorem State.finishTest_faultConcurrent (s : State) (v : TestReg) :
    (s.finishTest v).faultConcurrent = s.faultConcurrent := rfl
@[simp] theorem State.finishTest_refused (s : State) (v : TestReg) : (s.finishTest v).refused = s.refused := rfl
@[simp] theorem State.finishTest_wire (s : State) (v : TestReg) : (s.finishTest v).wire = s.wire := rfl
@[simp] theorem State.finishTest_lastGood (s : State) (v : TestReg) : (s.finishTest v).lastGood = s.lastGood := rfl
@[simp] theorem State.finishTest_configPort (s : State) (v : TestReg) :
    (s.finishTest v).configPort = s.configPort := rfl
@[simp] theorem State.finishTest_pixelPort (s : State) (v : TestReg) : (s.finishTest v).pixelPort = s.pixelPort := rfl
@[simp] theorem State.finishTest_pinTable (s : State) (v : TestReg) : (s.finishTest v).pinTable = s.pinTable := rfl
@[simp] theorem State.finishTest_claimAnswer (s : State) (v : TestReg) :
    (s.finishTest v).claimAnswer = s.claimAnswer := rfl
@[simp] theorem State.finishTest_writeAnswer (s : State) (v : TestReg) :
    (s.finishTest v).writeAnswer = s.writeAnswer := rfl
@[simp] theorem State.finishTest_draws (s : State) (v : TestReg) : (s.finishTest v).draws = s.draws := rfl
@[simp] theorem State.finishTest_agenda (s : State) (v : TestReg) : (s.finishTest v).agenda = s.agenda := rfl
@[simp] theorem State.finishTest_issuer (s : State) (v : TestReg) : (s.finishTest v).issuer = s.issuer := rfl
@[simp] theorem State.finishTest_renderThread (s : State) (v : TestReg) :
    (s.finishTest v).renderThread = s.renderThread := rfl
@[simp] theorem State.finishTest_hung (s : State) (v : TestReg) : (s.finishTest v).hung = s.hung := rfl
@[simp] theorem State.finishTest_completions (s : State) (v : TestReg) :
    (s.finishTest v).completions = s.completions ++ [{ thread := s.issuer, result := CmdResult.ok.bits, errInfo := 0 }] := rfl
@[simp] theorem State.finishTest_lastRead (s : State) (v : TestReg) : (s.finishTest v).lastRead = s.lastRead := rfl

/-! ## openDriver -/

@[simp] theorem State.openDriver_cfg (s : State) (k : Kind) (c : ConfigRecord) (warn : Bool) :
    (s.openDriver k c warn).cfg = some c := rfl
@[simp] theorem State.openDriver_drv (s : State) (k : Kind) (c : ConfigRecord) (warn : Bool) :
    (s.openDriver k c warn).drv = .idle := rfl
@[simp] theorem State.openDriver_result (s : State) (k : Kind) (c : ConfigRecord) (warn : Bool) :
    (s.openDriver k c warn).result = s.result := rfl
@[simp] theorem State.openDriver_errInfo (s : State) (k : Kind) (c : ConfigRecord) (warn : Bool) :
    (s.openDriver k c warn).errInfo = s.errInfo := rfl
@[simp] theorem State.openDriver_warnCap (s : State) (k : Kind) (c : ConfigRecord) (warn : Bool) :
    (s.openDriver k c warn).warnCap = warn := rfl
@[simp] theorem State.openDriver_handle (s : State) (k : Kind) (c : ConfigRecord) (warn : Bool) :
    (s.openDriver k c warn).handle = some { kind := k, pin := c.pin } := rfl
@[simp] theorem State.openDriver_pending (s : State) (k : Kind) (c : ConfigRecord) (warn : Bool) :
    (s.openDriver k c warn).pending = s.pending := rfl
@[simp] theorem State.openDriver_txbuf (s : State) (k : Kind) (c : ConfigRecord) (warn : Bool) :
    (s.openDriver k c warn).txbuf = some { size := c.capacity.toNat, cells := [] } := rfl
@[simp] theorem State.openDriver_testReg (s : State) (k : Kind) (c : ConfigRecord) (warn : Bool) :
    (s.openDriver k c warn).testReg = .none := rfl
@[simp] theorem State.openDriver_faultConcurrent (s : State) (k : Kind) (c : ConfigRecord) (warn : Bool) :
    (s.openDriver k c warn).faultConcurrent = s.faultConcurrent := rfl
@[simp] theorem State.openDriver_refused (s : State) (k : Kind) (c : ConfigRecord) (warn : Bool) :
    (s.openDriver k c warn).refused = s.refused := rfl
@[simp] theorem State.openDriver_wire (s : State) (k : Kind) (c : ConfigRecord) (warn : Bool) :
    (s.openDriver k c warn).wire = s.wire := rfl
@[simp] theorem State.openDriver_lastGood (s : State) (k : Kind) (c : ConfigRecord) (warn : Bool) :
    (s.openDriver k c warn).lastGood = s.lastGood := rfl
@[simp] theorem State.openDriver_configPort (s : State) (k : Kind) (c : ConfigRecord) (warn : Bool) :
    (s.openDriver k c warn).configPort = s.configPort := rfl
@[simp] theorem State.openDriver_pixelPort (s : State) (k : Kind) (c : ConfigRecord) (warn : Bool) :
    (s.openDriver k c warn).pixelPort = s.pixelPort := rfl
@[simp] theorem State.openDriver_pinTable (s : State) (k : Kind) (c : ConfigRecord) (warn : Bool) :
    (s.openDriver k c warn).pinTable = s.pinTable := rfl
@[simp] theorem State.openDriver_claimAnswer (s : State) (k : Kind) (c : ConfigRecord) (warn : Bool) :
    (s.openDriver k c warn).claimAnswer = s.claimAnswer := rfl
@[simp] theorem State.openDriver_writeAnswer (s : State) (k : Kind) (c : ConfigRecord) (warn : Bool) :
    (s.openDriver k c warn).writeAnswer = s.writeAnswer := rfl
@[simp] theorem State.openDriver_draws (s : State) (k : Kind) (c : ConfigRecord) (warn : Bool) :
    (s.openDriver k c warn).draws = s.draws := rfl
@[simp] theorem State.openDriver_agenda (s : State) (k : Kind) (c : ConfigRecord) (warn : Bool) :
    (s.openDriver k c warn).agenda = s.agenda := rfl
@[simp] theorem State.openDriver_issuer (s : State) (k : Kind) (c : ConfigRecord) (warn : Bool) :
    (s.openDriver k c warn).issuer = s.issuer := rfl
@[simp] theorem State.openDriver_renderThread (s : State) (k : Kind) (c : ConfigRecord) (warn : Bool) :
    (s.openDriver k c warn).renderThread = s.renderThread := rfl
@[simp] theorem State.openDriver_hung (s : State) (k : Kind) (c : ConfigRecord) (warn : Bool) :
    (s.openDriver k c warn).hung = s.hung := rfl
@[simp] theorem State.openDriver_completions (s : State) (k : Kind) (c : ConfigRecord) (warn : Bool) :
    (s.openDriver k c warn).completions = s.completions := rfl
@[simp] theorem State.openDriver_lastRead (s : State) (k : Kind) (c : ConfigRecord) (warn : Bool) :
    (s.openDriver k c warn).lastRead = s.lastRead := rfl

/-! ## closeDriver -/

@[simp] theorem State.closeDriver_cfg (s : State) : s.closeDriver.cfg = none := rfl
@[simp] theorem State.closeDriver_drv (s : State) : s.closeDriver.drv = .off := rfl
@[simp] theorem State.closeDriver_result (s : State) : s.closeDriver.result = s.result := rfl
@[simp] theorem State.closeDriver_errInfo (s : State) : s.closeDriver.errInfo = s.errInfo := rfl
@[simp] theorem State.closeDriver_warnCap (s : State) : s.closeDriver.warnCap = false := rfl
@[simp] theorem State.closeDriver_handle (s : State) : s.closeDriver.handle = none := rfl
@[simp] theorem State.closeDriver_pending (s : State) : s.closeDriver.pending = s.pending := rfl
@[simp] theorem State.closeDriver_txbuf (s : State) : s.closeDriver.txbuf = none := rfl
@[simp] theorem State.closeDriver_testReg (s : State) : s.closeDriver.testReg = .none := rfl
@[simp] theorem State.closeDriver_faultConcurrent (s : State) :
    s.closeDriver.faultConcurrent = s.faultConcurrent := rfl
@[simp] theorem State.closeDriver_refused (s : State) : s.closeDriver.refused = s.refused := rfl
@[simp] theorem State.closeDriver_wire (s : State) : s.closeDriver.wire = s.wire := rfl
@[simp] theorem State.closeDriver_lastGood (s : State) : s.closeDriver.lastGood = s.lastGood := rfl
@[simp] theorem State.closeDriver_configPort (s : State) : s.closeDriver.configPort = s.configPort := rfl
@[simp] theorem State.closeDriver_pixelPort (s : State) : s.closeDriver.pixelPort = s.pixelPort := rfl
@[simp] theorem State.closeDriver_pinTable (s : State) : s.closeDriver.pinTable = s.pinTable := rfl
@[simp] theorem State.closeDriver_claimAnswer (s : State) : s.closeDriver.claimAnswer = s.claimAnswer := rfl
@[simp] theorem State.closeDriver_writeAnswer (s : State) : s.closeDriver.writeAnswer = s.writeAnswer := rfl
@[simp] theorem State.closeDriver_draws (s : State) : s.closeDriver.draws = s.draws := rfl
@[simp] theorem State.closeDriver_agenda (s : State) : s.closeDriver.agenda = s.agenda := rfl
@[simp] theorem State.closeDriver_issuer (s : State) : s.closeDriver.issuer = s.issuer := rfl
@[simp] theorem State.closeDriver_renderThread (s : State) : s.closeDriver.renderThread = s.renderThread := rfl
@[simp] theorem State.closeDriver_hung (s : State) : s.closeDriver.hung = s.hung := rfl
@[simp] theorem State.closeDriver_completions (s : State) : s.closeDriver.completions = s.completions := rfl
@[simp] theorem State.closeDriver_lastRead (s : State) : s.closeDriver.lastRead = s.lastRead := rfl

/-! ## startRender -/

@[simp] theorem State.startRender_cfg (s : State) (strip : Strip) : (s.startRender strip).cfg = s.cfg := rfl
@[simp] theorem State.startRender_drv (s : State) (strip : Strip) : (s.startRender strip).drv = .encoding := rfl
@[simp] theorem State.startRender_result (s : State) (strip : Strip) : (s.startRender strip).result = s.result := rfl
@[simp] theorem State.startRender_errInfo (s : State) (strip : Strip) :
    (s.startRender strip).errInfo = s.errInfo := rfl
@[simp] theorem State.startRender_warnCap (s : State) (strip : Strip) :
    (s.startRender strip).warnCap = s.warnCap := rfl
@[simp] theorem State.startRender_handle (s : State) (strip : Strip) : (s.startRender strip).handle = s.handle := rfl
@[simp] theorem State.startRender_pending (s : State) (strip : Strip) :
    (s.startRender strip).pending = some { strip := strip, encoded := none } := rfl
@[simp] theorem State.startRender_txbuf (s : State) (strip : Strip) : (s.startRender strip).txbuf = s.txbuf := rfl
@[simp] theorem State.startRender_testReg (s : State) (strip : Strip) :
    (s.startRender strip).testReg = s.testReg := rfl
@[simp] theorem State.startRender_faultConcurrent (s : State) (strip : Strip) :
    (s.startRender strip).faultConcurrent = s.faultConcurrent := rfl
@[simp] theorem State.startRender_refused (s : State) (strip : Strip) :
    (s.startRender strip).refused = s.refused := rfl
@[simp] theorem State.startRender_wire (s : State) (strip : Strip) : (s.startRender strip).wire = s.wire := rfl
@[simp] theorem State.startRender_lastGood (s : State) (strip : Strip) :
    (s.startRender strip).lastGood = s.lastGood := rfl
@[simp] theorem State.startRender_configPort (s : State) (strip : Strip) :
    (s.startRender strip).configPort = s.configPort := rfl
@[simp] theorem State.startRender_pixelPort (s : State) (strip : Strip) :
    (s.startRender strip).pixelPort = s.pixelPort := rfl
@[simp] theorem State.startRender_pinTable (s : State) (strip : Strip) :
    (s.startRender strip).pinTable = s.pinTable := rfl
@[simp] theorem State.startRender_claimAnswer (s : State) (strip : Strip) :
    (s.startRender strip).claimAnswer = s.claimAnswer := rfl
@[simp] theorem State.startRender_writeAnswer (s : State) (strip : Strip) :
    (s.startRender strip).writeAnswer = s.writeAnswer := rfl
@[simp] theorem State.startRender_draws (s : State) (strip : Strip) : (s.startRender strip).draws = s.draws := rfl
@[simp] theorem State.startRender_agenda (s : State) (strip : Strip) : (s.startRender strip).agenda = s.agenda := rfl
@[simp] theorem State.startRender_issuer (s : State) (strip : Strip) : (s.startRender strip).issuer = s.issuer := rfl
@[simp] theorem State.startRender_renderThread (s : State) (strip : Strip) :
    (s.startRender strip).renderThread = some s.issuer := rfl
@[simp] theorem State.startRender_hung (s : State) (strip : Strip) : (s.startRender strip).hung = s.hung := rfl
@[simp] theorem State.startRender_completions (s : State) (strip : Strip) :
    (s.startRender strip).completions = s.completions := rfl
@[simp] theorem State.startRender_lastRead (s : State) (strip : Strip) :
    (s.startRender strip).lastRead = s.lastRead := rfl

/-! ## startTransmit -/

@[simp] theorem State.startTransmit_cfg (s : State) (p : Pending) (e : Encoded) (m : Memory) :
    (s.startTransmit p e m).cfg = s.cfg := rfl
@[simp] theorem State.startTransmit_drv (s : State) (p : Pending) (e : Encoded) (m : Memory) :
    (s.startTransmit p e m).drv = .transmitting := rfl
@[simp] theorem State.startTransmit_result (s : State) (p : Pending) (e : Encoded) (m : Memory) :
    (s.startTransmit p e m).result = s.result := rfl
@[simp] theorem State.startTransmit_errInfo (s : State) (p : Pending) (e : Encoded) (m : Memory) :
    (s.startTransmit p e m).errInfo = s.errInfo := rfl
@[simp] theorem State.startTransmit_warnCap (s : State) (p : Pending) (e : Encoded) (m : Memory) :
    (s.startTransmit p e m).warnCap = s.warnCap := rfl
@[simp] theorem State.startTransmit_handle (s : State) (p : Pending) (e : Encoded) (m : Memory) :
    (s.startTransmit p e m).handle = s.handle := rfl
@[simp] theorem State.startTransmit_pending (s : State) (p : Pending) (e : Encoded) (m : Memory) :
    (s.startTransmit p e m).pending = some { p with encoded := some e } := rfl
@[simp] theorem State.startTransmit_txbuf (s : State) (p : Pending) (e : Encoded) (m : Memory) :
    (s.startTransmit p e m).txbuf = some m := rfl
@[simp] theorem State.startTransmit_testReg (s : State) (p : Pending) (e : Encoded) (m : Memory) :
    (s.startTransmit p e m).testReg = s.testReg := rfl
@[simp] theorem State.startTransmit_faultConcurrent (s : State) (p : Pending) (e : Encoded) (m : Memory) :
    (s.startTransmit p e m).faultConcurrent = s.faultConcurrent := rfl
@[simp] theorem State.startTransmit_refused (s : State) (p : Pending) (e : Encoded) (m : Memory) :
    (s.startTransmit p e m).refused = s.refused := rfl
@[simp] theorem State.startTransmit_wire (s : State) (p : Pending) (e : Encoded) (m : Memory) :
    (s.startTransmit p e m).wire = s.wire := rfl
@[simp] theorem State.startTransmit_lastGood (s : State) (p : Pending) (e : Encoded) (m : Memory) :
    (s.startTransmit p e m).lastGood = s.lastGood := rfl
@[simp] theorem State.startTransmit_configPort (s : State) (p : Pending) (e : Encoded) (m : Memory) :
    (s.startTransmit p e m).configPort = s.configPort := rfl
@[simp] theorem State.startTransmit_pixelPort (s : State) (p : Pending) (e : Encoded) (m : Memory) :
    (s.startTransmit p e m).pixelPort = s.pixelPort := rfl
@[simp] theorem State.startTransmit_pinTable (s : State) (p : Pending) (e : Encoded) (m : Memory) :
    (s.startTransmit p e m).pinTable = s.pinTable := rfl
@[simp] theorem State.startTransmit_claimAnswer (s : State) (p : Pending) (e : Encoded) (m : Memory) :
    (s.startTransmit p e m).claimAnswer = s.claimAnswer := rfl
@[simp] theorem State.startTransmit_writeAnswer (s : State) (p : Pending) (e : Encoded) (m : Memory) :
    (s.startTransmit p e m).writeAnswer = s.writeAnswer := rfl
@[simp] theorem State.startTransmit_draws (s : State) (p : Pending) (e : Encoded) (m : Memory) :
    (s.startTransmit p e m).draws = s.draws := rfl
@[simp] theorem State.startTransmit_agenda (s : State) (p : Pending) (e : Encoded) (m : Memory) :
    (s.startTransmit p e m).agenda = s.agenda := rfl
@[simp] theorem State.startTransmit_issuer (s : State) (p : Pending) (e : Encoded) (m : Memory) :
    (s.startTransmit p e m).issuer = s.issuer := rfl
@[simp] theorem State.startTransmit_renderThread (s : State) (p : Pending) (e : Encoded) (m : Memory) :
    (s.startTransmit p e m).renderThread = s.renderThread := rfl
@[simp] theorem State.startTransmit_hung (s : State) (p : Pending) (e : Encoded) (m : Memory) :
    (s.startTransmit p e m).hung = s.hung := rfl
@[simp] theorem State.startTransmit_completions (s : State) (p : Pending) (e : Encoded) (m : Memory) :
    (s.startTransmit p e m).completions = s.completions := rfl
@[simp] theorem State.startTransmit_lastRead (s : State) (p : Pending) (e : Encoded) (m : Memory) :
    (s.startTransmit p e m).lastRead = s.lastRead := rfl

/-! ## endRender -/

@[simp] theorem State.endRender_cfg (s : State) (r : CmdResult) (info : Word32) :
    (s.endRender r info).cfg = s.cfg := rfl
@[simp] theorem State.endRender_drv (s : State) (r : CmdResult) (info : Word32) :
    (s.endRender r info).drv = .idle := rfl
@[simp] theorem State.endRender_result (s : State) (r : CmdResult) (info : Word32) :
    (s.endRender r info).result = r.bits := rfl
@[simp] theorem State.endRender_errInfo (s : State) (r : CmdResult) (info : Word32) :
    (s.endRender r info).errInfo = info := rfl
@[simp] theorem State.endRender_warnCap (s : State) (r : CmdResult) (info : Word32) :
    (s.endRender r info).warnCap = s.warnCap := rfl
@[simp] theorem State.endRender_handle (s : State) (r : CmdResult) (info : Word32) :
    (s.endRender r info).handle = s.handle := rfl
@[simp] theorem State.endRender_pending (s : State) (r : CmdResult) (info : Word32) :
    (s.endRender r info).pending = none := rfl
@[simp] theorem State.endRender_txbuf (s : State) (r : CmdResult) (info : Word32) :
    (s.endRender r info).txbuf = s.txbuf := rfl
@[simp] theorem State.endRender_testReg (s : State) (r : CmdResult) (info : Word32) :
    (s.endRender r info).testReg = s.testReg := rfl
@[simp] theorem State.endRender_faultConcurrent (s : State) (r : CmdResult) (info : Word32) :
    (s.endRender r info).faultConcurrent = s.faultConcurrent := rfl
@[simp] theorem State.endRender_refused (s : State) (r : CmdResult) (info : Word32) :
    (s.endRender r info).refused = s.refused := rfl
@[simp] theorem State.endRender_wire (s : State) (r : CmdResult) (info : Word32) :
    (s.endRender r info).wire = s.wire := rfl
@[simp] theorem State.endRender_lastGood (s : State) (r : CmdResult) (info : Word32) :
    (s.endRender r info).lastGood = s.lastGood := rfl
@[simp] theorem State.endRender_configPort (s : State) (r : CmdResult) (info : Word32) :
    (s.endRender r info).configPort = s.configPort := rfl
@[simp] theorem State.endRender_pixelPort (s : State) (r : CmdResult) (info : Word32) :
    (s.endRender r info).pixelPort = s.pixelPort := rfl
@[simp] theorem State.endRender_pinTable (s : State) (r : CmdResult) (info : Word32) :
    (s.endRender r info).pinTable = s.pinTable := rfl
@[simp] theorem State.endRender_claimAnswer (s : State) (r : CmdResult) (info : Word32) :
    (s.endRender r info).claimAnswer = s.claimAnswer := rfl
@[simp] theorem State.endRender_writeAnswer (s : State) (r : CmdResult) (info : Word32) :
    (s.endRender r info).writeAnswer = s.writeAnswer := rfl
@[simp] theorem State.endRender_draws (s : State) (r : CmdResult) (info : Word32) :
    (s.endRender r info).draws = s.draws := rfl
@[simp] theorem State.endRender_agenda (s : State) (r : CmdResult) (info : Word32) :
    (s.endRender r info).agenda = s.agenda := rfl
@[simp] theorem State.endRender_issuer (s : State) (r : CmdResult) (info : Word32) :
    (s.endRender r info).issuer = s.issuer := rfl
@[simp] theorem State.endRender_renderThread (s : State) (r : CmdResult) (info : Word32) :
    (s.endRender r info).renderThread = none := rfl
@[simp] theorem State.endRender_hung (s : State) (r : CmdResult) (info : Word32) :
    (s.endRender r info).hung = s.hung := rfl
@[simp] theorem State.endRender_completions (s : State) (r : CmdResult) (info : Word32) :
    (s.endRender r info).completions = s.completions ++ [{ thread := s.renderThread.getD s.issuer, result := r.bits, errInfo := info }] := rfl
@[simp] theorem State.endRender_lastRead (s : State) (r : CmdResult) (info : Word32) :
    (s.endRender r info).lastRead = s.lastRead := rfl

/-! ## commit -/

@[simp] theorem State.commit_cfg (s : State) (strip : Strip) (b : List Byte) : (s.commit strip b).cfg = s.cfg := rfl
@[simp] theorem State.commit_drv (s : State) (strip : Strip) (b : List Byte) : (s.commit strip b).drv = s.drv := rfl
@[simp] theorem State.commit_result (s : State) (strip : Strip) (b : List Byte) :
    (s.commit strip b).result = s.result := rfl
@[simp] theorem State.commit_errInfo (s : State) (strip : Strip) (b : List Byte) :
    (s.commit strip b).errInfo = s.errInfo := rfl
@[simp] theorem State.commit_warnCap (s : State) (strip : Strip) (b : List Byte) :
    (s.commit strip b).warnCap = s.warnCap := rfl
@[simp] theorem State.commit_handle (s : State) (strip : Strip) (b : List Byte) :
    (s.commit strip b).handle = s.handle := rfl
@[simp] theorem State.commit_pending (s : State) (strip : Strip) (b : List Byte) :
    (s.commit strip b).pending = s.pending := rfl
@[simp] theorem State.commit_txbuf (s : State) (strip : Strip) (b : List Byte) :
    (s.commit strip b).txbuf = s.txbuf := rfl
@[simp] theorem State.commit_testReg (s : State) (strip : Strip) (b : List Byte) :
    (s.commit strip b).testReg = s.testReg := rfl
@[simp] theorem State.commit_faultConcurrent (s : State) (strip : Strip) (b : List Byte) :
    (s.commit strip b).faultConcurrent = s.faultConcurrent := rfl
@[simp] theorem State.commit_refused (s : State) (strip : Strip) (b : List Byte) :
    (s.commit strip b).refused = s.refused := rfl
@[simp] theorem State.commit_wire (s : State) (strip : Strip) (b : List Byte) :
    (s.commit strip b).wire = s.wire := rfl
@[simp] theorem State.commit_lastGood (s : State) (strip : Strip) (b : List Byte) :
    (s.commit strip b).lastGood = some (strip, b) := rfl
@[simp] theorem State.commit_configPort (s : State) (strip : Strip) (b : List Byte) :
    (s.commit strip b).configPort = s.configPort := rfl
@[simp] theorem State.commit_pixelPort (s : State) (strip : Strip) (b : List Byte) :
    (s.commit strip b).pixelPort = s.pixelPort := rfl
@[simp] theorem State.commit_pinTable (s : State) (strip : Strip) (b : List Byte) :
    (s.commit strip b).pinTable = s.pinTable := rfl
@[simp] theorem State.commit_claimAnswer (s : State) (strip : Strip) (b : List Byte) :
    (s.commit strip b).claimAnswer = s.claimAnswer := rfl
@[simp] theorem State.commit_writeAnswer (s : State) (strip : Strip) (b : List Byte) :
    (s.commit strip b).writeAnswer = s.writeAnswer := rfl
@[simp] theorem State.commit_draws (s : State) (strip : Strip) (b : List Byte) :
    (s.commit strip b).draws = s.draws := rfl
@[simp] theorem State.commit_agenda (s : State) (strip : Strip) (b : List Byte) :
    (s.commit strip b).agenda = s.agenda := rfl
@[simp] theorem State.commit_issuer (s : State) (strip : Strip) (b : List Byte) :
    (s.commit strip b).issuer = s.issuer := rfl
@[simp] theorem State.commit_renderThread (s : State) (strip : Strip) (b : List Byte) :
    (s.commit strip b).renderThread = s.renderThread := rfl
@[simp] theorem State.commit_hung (s : State) (strip : Strip) (b : List Byte) :
    (s.commit strip b).hung = s.hung := rfl
@[simp] theorem State.commit_completions (s : State) (strip : Strip) (b : List Byte) :
    (s.commit strip b).completions = s.completions := rfl
@[simp] theorem State.commit_lastRead (s : State) (strip : Strip) (b : List Byte) :
    (s.commit strip b).lastRead = s.lastRead := rfl

/-! ## afterClaim -/

@[simp] theorem State.afterClaim_cfg (s : State) : s.afterClaim.cfg = s.cfg := rfl
@[simp] theorem State.afterClaim_drv (s : State) : s.afterClaim.drv = s.drv := rfl
@[simp] theorem State.afterClaim_result (s : State) : s.afterClaim.result = s.result := rfl
@[simp] theorem State.afterClaim_errInfo (s : State) : s.afterClaim.errInfo = s.errInfo := rfl
@[simp] theorem State.afterClaim_warnCap (s : State) : s.afterClaim.warnCap = s.warnCap := rfl
@[simp] theorem State.afterClaim_handle (s : State) : s.afterClaim.handle = s.handle := rfl
@[simp] theorem State.afterClaim_pending (s : State) : s.afterClaim.pending = s.pending := rfl
@[simp] theorem State.afterClaim_txbuf (s : State) : s.afterClaim.txbuf = s.txbuf := rfl
@[simp] theorem State.afterClaim_testReg (s : State) : s.afterClaim.testReg = s.testReg := rfl
@[simp] theorem State.afterClaim_faultConcurrent (s : State) : s.afterClaim.faultConcurrent = s.faultConcurrent := rfl
@[simp] theorem State.afterClaim_refused (s : State) : s.afterClaim.refused = s.refused := rfl
@[simp] theorem State.afterClaim_wire (s : State) : s.afterClaim.wire = s.wire := rfl
@[simp] theorem State.afterClaim_lastGood (s : State) : s.afterClaim.lastGood = s.lastGood := rfl
@[simp] theorem State.afterClaim_configPort (s : State) : s.afterClaim.configPort = s.configPort := rfl
@[simp] theorem State.afterClaim_pixelPort (s : State) : s.afterClaim.pixelPort = s.pixelPort := rfl
@[simp] theorem State.afterClaim_pinTable (s : State) : s.afterClaim.pinTable = s.pinTable := rfl
@[simp] theorem State.afterClaim_claimAnswer (s : State) : s.afterClaim.claimAnswer = none := rfl
@[simp] theorem State.afterClaim_writeAnswer (s : State) : s.afterClaim.writeAnswer = s.writeAnswer := rfl
@[simp] theorem State.afterClaim_draws (s : State) : s.afterClaim.draws = s.draws + 1 := rfl
@[simp] theorem State.afterClaim_agenda (s : State) : s.afterClaim.agenda = s.agenda := rfl
@[simp] theorem State.afterClaim_issuer (s : State) : s.afterClaim.issuer = s.issuer := rfl
@[simp] theorem State.afterClaim_renderThread (s : State) : s.afterClaim.renderThread = s.renderThread := rfl
@[simp] theorem State.afterClaim_hung (s : State) : s.afterClaim.hung = s.hung := rfl
@[simp] theorem State.afterClaim_completions (s : State) : s.afterClaim.completions = s.completions := rfl
@[simp] theorem State.afterClaim_lastRead (s : State) : s.afterClaim.lastRead = s.lastRead := rfl

/-! ## afterWrite -/

@[simp] theorem State.afterWrite_cfg (s : State) : s.afterWrite.cfg = s.cfg := rfl
@[simp] theorem State.afterWrite_drv (s : State) : s.afterWrite.drv = s.drv := rfl
@[simp] theorem State.afterWrite_result (s : State) : s.afterWrite.result = s.result := rfl
@[simp] theorem State.afterWrite_errInfo (s : State) : s.afterWrite.errInfo = s.errInfo := rfl
@[simp] theorem State.afterWrite_warnCap (s : State) : s.afterWrite.warnCap = s.warnCap := rfl
@[simp] theorem State.afterWrite_handle (s : State) : s.afterWrite.handle = s.handle := rfl
@[simp] theorem State.afterWrite_pending (s : State) : s.afterWrite.pending = s.pending := rfl
@[simp] theorem State.afterWrite_txbuf (s : State) : s.afterWrite.txbuf = s.txbuf := rfl
@[simp] theorem State.afterWrite_testReg (s : State) : s.afterWrite.testReg = s.testReg := rfl
@[simp] theorem State.afterWrite_faultConcurrent (s : State) : s.afterWrite.faultConcurrent = s.faultConcurrent := rfl
@[simp] theorem State.afterWrite_refused (s : State) : s.afterWrite.refused = s.refused := rfl
@[simp] theorem State.afterWrite_wire (s : State) : s.afterWrite.wire = s.wire := rfl
@[simp] theorem State.afterWrite_lastGood (s : State) : s.afterWrite.lastGood = s.lastGood := rfl
@[simp] theorem State.afterWrite_configPort (s : State) : s.afterWrite.configPort = s.configPort := rfl
@[simp] theorem State.afterWrite_pixelPort (s : State) : s.afterWrite.pixelPort = s.pixelPort := rfl
@[simp] theorem State.afterWrite_pinTable (s : State) : s.afterWrite.pinTable = s.pinTable := rfl
@[simp] theorem State.afterWrite_claimAnswer (s : State) : s.afterWrite.claimAnswer = s.claimAnswer := rfl
@[simp] theorem State.afterWrite_writeAnswer (s : State) : s.afterWrite.writeAnswer = none := rfl
@[simp] theorem State.afterWrite_draws (s : State) : s.afterWrite.draws = s.draws + 1 := rfl
@[simp] theorem State.afterWrite_agenda (s : State) : s.afterWrite.agenda = s.agenda := rfl
@[simp] theorem State.afterWrite_issuer (s : State) : s.afterWrite.issuer = s.issuer := rfl
@[simp] theorem State.afterWrite_renderThread (s : State) : s.afterWrite.renderThread = s.renderThread := rfl
@[simp] theorem State.afterWrite_hung (s : State) : s.afterWrite.hung = s.hung := rfl
@[simp] theorem State.afterWrite_completions (s : State) : s.afterWrite.completions = s.completions := rfl
@[simp] theorem State.afterWrite_lastRead (s : State) : s.afterWrite.lastRead = s.lastRead := rfl

/-! ## logWrite -/

@[simp] theorem State.logWrite_cfg (s : State) (k : Kind) (w : Nat) (b : List Byte) (a : PhysAnswer) :
    (s.logWrite k w b a).cfg = s.cfg := rfl
@[simp] theorem State.logWrite_drv (s : State) (k : Kind) (w : Nat) (b : List Byte) (a : PhysAnswer) :
    (s.logWrite k w b a).drv = s.drv := rfl
@[simp] theorem State.logWrite_result (s : State) (k : Kind) (w : Nat) (b : List Byte) (a : PhysAnswer) :
    (s.logWrite k w b a).result = s.result := rfl
@[simp] theorem State.logWrite_errInfo (s : State) (k : Kind) (w : Nat) (b : List Byte) (a : PhysAnswer) :
    (s.logWrite k w b a).errInfo = s.errInfo := rfl
@[simp] theorem State.logWrite_warnCap (s : State) (k : Kind) (w : Nat) (b : List Byte) (a : PhysAnswer) :
    (s.logWrite k w b a).warnCap = s.warnCap := rfl
@[simp] theorem State.logWrite_handle (s : State) (k : Kind) (w : Nat) (b : List Byte) (a : PhysAnswer) :
    (s.logWrite k w b a).handle = s.handle := rfl
@[simp] theorem State.logWrite_pending (s : State) (k : Kind) (w : Nat) (b : List Byte) (a : PhysAnswer) :
    (s.logWrite k w b a).pending = s.pending := rfl
@[simp] theorem State.logWrite_txbuf (s : State) (k : Kind) (w : Nat) (b : List Byte) (a : PhysAnswer) :
    (s.logWrite k w b a).txbuf = s.txbuf := rfl
@[simp] theorem State.logWrite_testReg (s : State) (k : Kind) (w : Nat) (b : List Byte) (a : PhysAnswer) :
    (s.logWrite k w b a).testReg = s.testReg := rfl
@[simp] theorem State.logWrite_faultConcurrent (s : State) (k : Kind) (w : Nat) (b : List Byte) (a : PhysAnswer) :
    (s.logWrite k w b a).faultConcurrent = s.faultConcurrent := rfl
@[simp] theorem State.logWrite_refused (s : State) (k : Kind) (w : Nat) (b : List Byte) (a : PhysAnswer) :
    (s.logWrite k w b a).refused = s.refused := rfl
@[simp] theorem State.logWrite_wire (s : State) (k : Kind) (w : Nat) (b : List Byte) (a : PhysAnswer) :
    (s.logWrite k w b a).wire = s.wire ++ [{ kind := k, sent := sentBytes w b a, outcome := wireOutcome a }] := rfl
@[simp] theorem State.logWrite_lastGood (s : State) (k : Kind) (w : Nat) (b : List Byte) (a : PhysAnswer) :
    (s.logWrite k w b a).lastGood = s.lastGood := rfl
@[simp] theorem State.logWrite_configPort (s : State) (k : Kind) (w : Nat) (b : List Byte) (a : PhysAnswer) :
    (s.logWrite k w b a).configPort = s.configPort := rfl
@[simp] theorem State.logWrite_pixelPort (s : State) (k : Kind) (w : Nat) (b : List Byte) (a : PhysAnswer) :
    (s.logWrite k w b a).pixelPort = s.pixelPort := rfl
@[simp] theorem State.logWrite_pinTable (s : State) (k : Kind) (w : Nat) (b : List Byte) (a : PhysAnswer) :
    (s.logWrite k w b a).pinTable = s.pinTable := rfl
@[simp] theorem State.logWrite_claimAnswer (s : State) (k : Kind) (w : Nat) (b : List Byte) (a : PhysAnswer) :
    (s.logWrite k w b a).claimAnswer = s.claimAnswer := rfl
@[simp] theorem State.logWrite_writeAnswer (s : State) (k : Kind) (w : Nat) (b : List Byte) (a : PhysAnswer) :
    (s.logWrite k w b a).writeAnswer = s.writeAnswer := rfl
@[simp] theorem State.logWrite_draws (s : State) (k : Kind) (w : Nat) (b : List Byte) (a : PhysAnswer) :
    (s.logWrite k w b a).draws = s.draws := rfl
@[simp] theorem State.logWrite_agenda (s : State) (k : Kind) (w : Nat) (b : List Byte) (a : PhysAnswer) :
    (s.logWrite k w b a).agenda = s.agenda := rfl
@[simp] theorem State.logWrite_issuer (s : State) (k : Kind) (w : Nat) (b : List Byte) (a : PhysAnswer) :
    (s.logWrite k w b a).issuer = s.issuer := rfl
@[simp] theorem State.logWrite_renderThread (s : State) (k : Kind) (w : Nat) (b : List Byte) (a : PhysAnswer) :
    (s.logWrite k w b a).renderThread = s.renderThread := rfl
@[simp] theorem State.logWrite_hung (s : State) (k : Kind) (w : Nat) (b : List Byte) (a : PhysAnswer) :
    (s.logWrite k w b a).hung = s.hung := rfl
@[simp] theorem State.logWrite_completions (s : State) (k : Kind) (w : Nat) (b : List Byte) (a : PhysAnswer) :
    (s.logWrite k w b a).completions = s.completions := rfl
@[simp] theorem State.logWrite_lastRead (s : State) (k : Kind) (w : Nat) (b : List Byte) (a : PhysAnswer) :
    (s.logWrite k w b a).lastRead = s.lastRead := rfl

/-! ## popAgenda -/

@[simp] theorem State.popAgenda_cfg (s : State) : s.popAgenda.cfg = s.cfg := rfl
@[simp] theorem State.popAgenda_drv (s : State) : s.popAgenda.drv = s.drv := rfl
@[simp] theorem State.popAgenda_result (s : State) : s.popAgenda.result = s.result := rfl
@[simp] theorem State.popAgenda_errInfo (s : State) : s.popAgenda.errInfo = s.errInfo := rfl
@[simp] theorem State.popAgenda_warnCap (s : State) : s.popAgenda.warnCap = s.warnCap := rfl
@[simp] theorem State.popAgenda_handle (s : State) : s.popAgenda.handle = s.handle := rfl
@[simp] theorem State.popAgenda_pending (s : State) : s.popAgenda.pending = s.pending := rfl
@[simp] theorem State.popAgenda_txbuf (s : State) : s.popAgenda.txbuf = s.txbuf := rfl
@[simp] theorem State.popAgenda_testReg (s : State) : s.popAgenda.testReg = s.testReg := rfl
@[simp] theorem State.popAgenda_faultConcurrent (s : State) : s.popAgenda.faultConcurrent = s.faultConcurrent := rfl
@[simp] theorem State.popAgenda_refused (s : State) : s.popAgenda.refused = s.refused := rfl
@[simp] theorem State.popAgenda_wire (s : State) : s.popAgenda.wire = s.wire := rfl
@[simp] theorem State.popAgenda_lastGood (s : State) : s.popAgenda.lastGood = s.lastGood := rfl
@[simp] theorem State.popAgenda_configPort (s : State) : s.popAgenda.configPort = s.configPort := rfl
@[simp] theorem State.popAgenda_pixelPort (s : State) : s.popAgenda.pixelPort = s.pixelPort := rfl
@[simp] theorem State.popAgenda_pinTable (s : State) : s.popAgenda.pinTable = s.pinTable := rfl
@[simp] theorem State.popAgenda_claimAnswer (s : State) : s.popAgenda.claimAnswer = s.claimAnswer := rfl
@[simp] theorem State.popAgenda_writeAnswer (s : State) : s.popAgenda.writeAnswer = s.writeAnswer := rfl
@[simp] theorem State.popAgenda_draws (s : State) : s.popAgenda.draws = s.draws := rfl
@[simp] theorem State.popAgenda_agenda (s : State) : s.popAgenda.agenda = s.agenda.tail := rfl
@[simp] theorem State.popAgenda_issuer (s : State) : s.popAgenda.issuer = s.issuer := rfl
@[simp] theorem State.popAgenda_renderThread (s : State) : s.popAgenda.renderThread = s.renderThread := rfl
@[simp] theorem State.popAgenda_hung (s : State) : s.popAgenda.hung = s.hung := rfl
@[simp] theorem State.popAgenda_completions (s : State) : s.popAgenda.completions = s.completions := rfl
@[simp] theorem State.popAgenda_lastRead (s : State) : s.popAgenda.lastRead = s.lastRead := rfl

/-! ## acceptFrom -/

@[simp] theorem State.acceptFrom_cfg (s : State) (t : Nat) : (s.acceptFrom t).cfg = s.cfg := rfl
@[simp] theorem State.acceptFrom_drv (s : State) (t : Nat) : (s.acceptFrom t).drv = s.drv := rfl
@[simp] theorem State.acceptFrom_result (s : State) (t : Nat) : (s.acceptFrom t).result = s.result := rfl
@[simp] theorem State.acceptFrom_errInfo (s : State) (t : Nat) : (s.acceptFrom t).errInfo = s.errInfo := rfl
@[simp] theorem State.acceptFrom_warnCap (s : State) (t : Nat) : (s.acceptFrom t).warnCap = s.warnCap := rfl
@[simp] theorem State.acceptFrom_handle (s : State) (t : Nat) : (s.acceptFrom t).handle = s.handle := rfl
@[simp] theorem State.acceptFrom_pending (s : State) (t : Nat) : (s.acceptFrom t).pending = s.pending := rfl
@[simp] theorem State.acceptFrom_txbuf (s : State) (t : Nat) : (s.acceptFrom t).txbuf = s.txbuf := rfl
@[simp] theorem State.acceptFrom_testReg (s : State) (t : Nat) : (s.acceptFrom t).testReg = s.testReg := rfl
@[simp] theorem State.acceptFrom_faultConcurrent (s : State) (t : Nat) :
    (s.acceptFrom t).faultConcurrent = s.faultConcurrent := rfl
@[simp] theorem State.acceptFrom_refused (s : State) (t : Nat) : (s.acceptFrom t).refused = s.refused := rfl
@[simp] theorem State.acceptFrom_wire (s : State) (t : Nat) : (s.acceptFrom t).wire = s.wire := rfl
@[simp] theorem State.acceptFrom_lastGood (s : State) (t : Nat) : (s.acceptFrom t).lastGood = s.lastGood := rfl
@[simp] theorem State.acceptFrom_configPort (s : State) (t : Nat) : (s.acceptFrom t).configPort = s.configPort := rfl
@[simp] theorem State.acceptFrom_pixelPort (s : State) (t : Nat) : (s.acceptFrom t).pixelPort = s.pixelPort := rfl
@[simp] theorem State.acceptFrom_pinTable (s : State) (t : Nat) : (s.acceptFrom t).pinTable = s.pinTable := rfl
@[simp] theorem State.acceptFrom_claimAnswer (s : State) (t : Nat) :
    (s.acceptFrom t).claimAnswer = s.claimAnswer := rfl
@[simp] theorem State.acceptFrom_writeAnswer (s : State) (t : Nat) :
    (s.acceptFrom t).writeAnswer = s.writeAnswer := rfl
@[simp] theorem State.acceptFrom_draws (s : State) (t : Nat) : (s.acceptFrom t).draws = s.draws := rfl
@[simp] theorem State.acceptFrom_agenda (s : State) (t : Nat) : (s.acceptFrom t).agenda = s.agenda.tail := rfl
@[simp] theorem State.acceptFrom_issuer (s : State) (t : Nat) : (s.acceptFrom t).issuer = t := rfl
@[simp] theorem State.acceptFrom_renderThread (s : State) (t : Nat) :
    (s.acceptFrom t).renderThread = s.renderThread := rfl
@[simp] theorem State.acceptFrom_hung (s : State) (t : Nat) : (s.acceptFrom t).hung = s.hung := rfl
@[simp] theorem State.acceptFrom_completions (s : State) (t : Nat) :
    (s.acceptFrom t).completions = s.completions := rfl
@[simp] theorem State.acceptFrom_lastRead (s : State) (t : Nat) : (s.acceptFrom t).lastRead = s.lastRead := rfl

/-! ## withCommand -/

@[simp] theorem State.withCommand_cfg (s : State) (w : Word16) : (s.withCommand w).cfg = s.cfg := rfl
@[simp] theorem State.withCommand_drv (s : State) (w : Word16) : (s.withCommand w).drv = s.drv := rfl
@[simp] theorem State.withCommand_result (s : State) (w : Word16) : (s.withCommand w).result = s.result := rfl
@[simp] theorem State.withCommand_errInfo (s : State) (w : Word16) : (s.withCommand w).errInfo = s.errInfo := rfl
@[simp] theorem State.withCommand_warnCap (s : State) (w : Word16) : (s.withCommand w).warnCap = s.warnCap := rfl
@[simp] theorem State.withCommand_handle (s : State) (w : Word16) : (s.withCommand w).handle = s.handle := rfl
@[simp] theorem State.withCommand_pending (s : State) (w : Word16) : (s.withCommand w).pending = s.pending := rfl
@[simp] theorem State.withCommand_txbuf (s : State) (w : Word16) : (s.withCommand w).txbuf = s.txbuf := rfl
@[simp] theorem State.withCommand_testReg (s : State) (w : Word16) : (s.withCommand w).testReg = s.testReg := rfl
@[simp] theorem State.withCommand_faultConcurrent (s : State) (w : Word16) :
    (s.withCommand w).faultConcurrent = s.faultConcurrent := rfl
@[simp] theorem State.withCommand_refused (s : State) (w : Word16) : (s.withCommand w).refused = s.refused := rfl
@[simp] theorem State.withCommand_wire (s : State) (w : Word16) : (s.withCommand w).wire = s.wire := rfl
@[simp] theorem State.withCommand_lastGood (s : State) (w : Word16) : (s.withCommand w).lastGood = s.lastGood := rfl
@[simp] theorem State.withCommand_configPort (s : State) (w : Word16) :
    (s.withCommand w).configPort = s.configPort := rfl
@[simp] theorem State.withCommand_pixelPort (s : State) (w : Word16) :
    (s.withCommand w).pixelPort = s.pixelPort := rfl
@[simp] theorem State.withCommand_pinTable (s : State) (w : Word16) : (s.withCommand w).pinTable = s.pinTable := rfl
@[simp] theorem State.withCommand_claimAnswer (s : State) (w : Word16) :
    (s.withCommand w).claimAnswer = s.claimAnswer := rfl
@[simp] theorem State.withCommand_writeAnswer (s : State) (w : Word16) :
    (s.withCommand w).writeAnswer = s.writeAnswer := rfl
@[simp] theorem State.withCommand_draws (s : State) (w : Word16) : (s.withCommand w).draws = s.draws := rfl
@[simp] theorem State.withCommand_agenda (s : State) (w : Word16) :
    (s.withCommand w).agenda = .act s.freeThread (.issue w) :: s.agenda := rfl
@[simp] theorem State.withCommand_issuer (s : State) (w : Word16) : (s.withCommand w).issuer = s.issuer := rfl
@[simp] theorem State.withCommand_renderThread (s : State) (w : Word16) :
    (s.withCommand w).renderThread = s.renderThread := rfl
@[simp] theorem State.withCommand_hung (s : State) (w : Word16) : (s.withCommand w).hung = s.hung := rfl
@[simp] theorem State.withCommand_completions (s : State) (w : Word16) :
    (s.withCommand w).completions = s.completions := rfl
@[simp] theorem State.withCommand_lastRead (s : State) (w : Word16) : (s.withCommand w).lastRead = s.lastRead := rfl

end Sys2Proof.Machine
end

