-- ==== Sys2Proof/Laws/Buffer.lean ====
section
/-! SUPPORT. What the operations of the transmit buffer do: read after write, the canonical form, the fill, the read of the physical write. -/

namespace Sys2Proof.Machine

theorem lookupCell_insertCell (i j : Nat) (v : Byte) (cs : List Host.Cell) :
    lookupCell (insertCell i v cs) j = if i = j then some v else lookupCell cs j := by
  induction cs with
  | nil => simp [insertCell, lookupCell]
  | cons c cs ih => grind [insertCell, lookupCell]

theorem cellsOk_insertCell (i : Nat) (v : Byte) (cs : List Host.Cell) (lo hi : Nat)
    (hlo : lo ≤ i) (hhi : i < hi) (h : cellsOk lo hi cs = true) : cellsOk lo hi (insertCell i v cs) = true := by
  induction cs generalizing lo with
  | nil => simp [insertCell, cellsOk, hlo, hhi]
  | cons c cs ih =>
    simp only [cellsOk, Bool.and_eq_true, decide_eq_true_eq] at h
    simp only [insertCell]
    split
    · simp [cellsOk, h]; omega
    · split
      · subst i; simp [cellsOk, h]
      · simp only [cellsOk, Bool.and_eq_true, decide_eq_true_eq]
        exact ⟨h.1, ih _ (by omega) h.2⟩

/-- A byte write succeeds exactly inside the buffer. -/
theorem Memory.setByte_eq_some {m m' : Memory} {i : Nat} {v : Byte} (h : m.setByte i v = some m') :
    i < m.size ∧ m' = { m with cells := insertCell i v m.cells } := by
  unfold Memory.setByte at h
  split at h
  · exact ⟨‹_›, by simpa using h.symm⟩
  · cases h

theorem Memory.setByte_inside {m : Memory} {i : Nat} {v : Byte} (h : i < m.size) :
    m.setByte i v = some { m with cells := insertCell i v m.cells } := by
  simp [Memory.setByte, h]

/-- Everything a byte write does: the size stays, the byte is there, every other byte stays, the form is kept. -/
theorem Memory.setByte_spec {m m' : Memory} {i : Nat} {v : Byte} (h : m.setByte i v = some m') :
    m'.size = m.size ∧ (∀ j, m'.byte j = if i = j then some v else m.byte j) ∧ (m.wf = true → m'.wf = true) := by
  obtain ⟨hi, rfl⟩ := Memory.setByte_eq_some h
  refine ⟨rfl, fun j => ?_, fun hw => ?_⟩
  · simp only [Memory.byte, lookupCell_insertCell]
    grind
  · exact cellsOk_insertCell i v _ 0 _ (Nat.zero_le _) hi hw

/-- Bytes that fit are written. -/
theorem Memory.putBytes_inside {m : Memory} {i : Nat} {bs : List Byte} (h : i + bs.length ≤ m.size) :
    ∃ m', m.putBytes i bs = some m' := by
  induction bs generalizing m i with
  | nil => exact ⟨m, rfl⟩
  | cons b bs ih =>
    simp only [List.length_cons] at h
    simp only [Memory.putBytes, Memory.setByte_inside (show i < m.size by omega), Option.bind_some]
    exact ih (by simp; omega)

/-- Everything a write of bytes does: the size stays, the bytes are there, every other byte stays, the form is kept. -/
theorem Memory.putBytes_spec {m m' : Memory} {i : Nat} {bs : List Byte} (h : m.putBytes i bs = some m') :
    m'.size = m.size ∧ (∀ j, m'.byte j = if i ≤ j ∧ j < i + bs.length then bs[j - i]? else m.byte j) ∧
      (m.wf = true → m'.wf = true) := by
  induction bs generalizing m i with
  | nil =>
    simp only [Memory.putBytes, Option.some.injEq] at h
    subst h
    simp
  | cons b bs ih =>
    simp only [Memory.putBytes, Option.bind_eq_some_iff] at h
    obtain ⟨m1, h1, h2⟩ := h
    obtain ⟨e1, e2, e3⟩ := Memory.setByte_spec h1
    obtain ⟨f1, f2, f3⟩ := ih h2
    refine ⟨f1.trans e1, fun j => ?_, fun hw => f3 (e3 hw)⟩
    rw [f2, e2]
    rcases Nat.lt_trichotomy i j with hj | hj | hj
    · obtain ⟨d, rfl⟩ : ∃ d, j = i + 1 + d := ⟨j - (i + 1), by omega⟩
      have : i + 1 + d - i = d + 1 := by omega
      simp only [this, List.getElem?_cons_succ, List.length_cons]
      have : i + 1 + d - (i + 1) = d := by omega
      rw [this]
      grind
    · subst hj; simp
    · grind

@[simp] theorem length_leBytes (n v : Nat) : (leBytes n v).length = n := by simp [leBytes]

/-- Everything `MemWrite` does: byte `k` of the value lies at `i+k`, every other byte stays (R63). -/
theorem Memory.memWrite_spec {m m' : Memory} {i n v : Nat} (h : m.memWrite i n v = some m') :
    m'.size = m.size ∧ (∀ j, m'.byte j = if i ≤ j ∧ j < i + n then some (byteOf v (j - i)) else m.byte j) ∧
      (m.wf = true → m'.wf = true) := by
  obtain ⟨h1, h2, h3⟩ := Memory.putBytes_spec h
  refine ⟨h1, fun j => ?_, h3⟩
  rw [h2, length_leBytes]
  split
  · simp only [leBytes, List.getElem?_map]
    rw [List.getElem?_range (by omega)]
    rfl
  · rfl

/-- `MemWrite(i, 1, b)` writes the byte `b` (R63). -/
theorem Memory.memWrite_byte (m : Memory) (i : Nat) (b : Byte) : m.memWrite i 1 b.toNat = m.setByte i b := by
  have h : leBytes 1 b.toNat = [b] := by simp [leBytes, byteOf, List.range_succ]
  simp [Memory.memWrite, h, Memory.putBytes]

/-- The loop of the Encoding stage stores the bytes it is given (R177, R211). -/
theorem Memory.fill_eq_putBytes (m : Memory) (i : Nat) (bs : List Byte) : m.fill i bs = m.putBytes i bs := by
  induction bs generalizing m i with
  | nil => rfl
  | cons b bs ih => simp only [Memory.fill, Memory.putBytes, Memory.memWrite_byte, ih]

/-- A fill that fits succeeds. -/
theorem Memory.fill_inside {m : Memory} {i : Nat} {bs : List Byte} (h : i + bs.length ≤ m.size) :
    ∃ m', m.fill i bs = some m' := Memory.fill_eq_putBytes m i bs ▸ Memory.putBytes_inside h

/-- Everything a fill does: the size stays, the bytes are there, every other byte stays, the form is kept. -/
theorem Memory.fill_spec {m m' : Memory} {i : Nat} {bs : List Byte} (h : m.fill i bs = some m') :
    m'.size = m.size ∧ (∀ j, m'.byte j = if i ≤ j ∧ j < i + bs.length then bs[j - i]? else m.byte j) ∧
      (m.wf = true → m'.wf = true) := Memory.putBytes_spec (Memory.fill_eq_putBytes m i bs ▸ h)

/-- Everything reading bytes does: it gives exactly the bytes that stand there, and none where one is missing (R60). -/
theorem Memory.readBytes_eq_some (m : Memory) (i n : Nat) (b : List Byte) :
    m.readBytes i n = some b ↔ b.length = n ∧ ∀ j < n, m.byte (i + j) = b[j]? := by
  induction n generalizing i b with
  | zero => cases b <;> simp [Memory.readBytes]
  | succ n ih =>
    simp only [Memory.readBytes, Option.bind_eq_some_iff, Option.map_eq_some_iff, ih]
    constructor
    · rintro ⟨a, ha, bs, ⟨rfl, h⟩, rfl⟩
      refine ⟨rfl, fun j hj => ?_⟩
      cases j with
      | zero => simpa using ha
      | succ j => simpa [Nat.add_assoc, Nat.add_comm 1 j] using h j (by omega)
    · rintro ⟨hl, h⟩
      cases b with
      | nil => simp at hl
      | cons a bs =>
        simp only [List.length_cons, Nat.add_right_cancel_iff] at hl
        refine ⟨a, by simpa using h 0 (by omega), bs, ⟨hl, fun j hj => ?_⟩, rfl⟩
        simpa [Nat.add_assoc, Nat.add_comm 1 j] using h (j + 1) (by omega)

/-- A buffer with nothing listed is in canonical form. -/
@[simp] theorem Memory.wf_empty (n : Nat) : (Memory.mk n []).wf = true := rfl

/-- The machine after reset has no buffer, so its buffer is in canonical form. -/
theorem reset_buffer_wf : ∀ m, State.reset.txbuf = some m → m.wf = true := by simp [State.reset]

end Sys2Proof.Machine
end

