-- ==== Sys2Proof/Laws/Codec.lean ====
section
/-! SUPPORT. The rows of R85 in terms of the fields of R80: what each mask says. -/

namespace Sys2Proof

/-- A row with mask 0xFFFF fixes the whole word. -/
theorem matchesRow_full (w v : Word16) : matchesRow w 0xFFFF v = true ↔ w = v := by
  have : w &&& 0xFFFF = w := by
    apply BitVec.eq_of_getLsbD_eq
    intro i hi
    interval_cases i <;> simp
  rw [matchesRow, beq_iff_eq, this]

/-- A word is its fields put together (R80). -/
theorem word_eq_fields (w : Word16) :
    w = (fieldsOf w).imm8 ++ (fieldsOf w).rsv ++ (fieldsOf w).inv ++ (fieldsOf w).bo ++ (fieldsOf w).op := by
  apply BitVec.eq_of_getLsbD_eq
  intro i hi
  simp only [fieldsOf, BitVec.getLsbD_append, BitVec.getLsbD_extractLsb']
  interval_cases i <;> simp

/-- The T_ENCODE row of R85 leaves BO and IMM8 free. -/
theorem matchesRow_tEncode (w : Word16) :
    matchesRow w 0x00EF 0x0004 = true ↔ (fieldsOf w).op = 4 ∧ (fieldsOf w).inv = 0 ∧ (fieldsOf w).rsv = 0 := by
  simp only [matchesRow, beq_iff_eq]
  constructor
  · intro h
    have hb := fun i => congrArg (fun x : Word16 => x.getLsbD i) h
    simp only [BitVec.getLsbD_and] at hb
    refine ⟨?_, ?_, ?_⟩ <;> apply BitVec.eq_of_getLsbD_eq <;> intro i hi <;>
      simp only [fieldsOf, BitVec.getLsbD_extractLsb']
    · have := hb i; interval_cases i <;> simp_all
    · have := hb (5 + i); interval_cases i; simp_all
    · have := hb (6 + i); interval_cases i <;> simp_all
  · rintro ⟨h1, h2, h3⟩
    rw [word_eq_fields w, h1, h2, h3]
    apply BitVec.eq_of_getLsbD_eq
    intro i hi
    simp only [BitVec.getLsbD_append, BitVec.getLsbD_and]
    interval_cases i <;> simp

/-- The T_INVERT row of R85 leaves INV free. -/
theorem matchesRow_tInvert (w : Word16) :
    matchesRow w 0xFFDF 0x0006 = true ↔
      (fieldsOf w).op = 6 ∧ (fieldsOf w).bo = 0 ∧ (fieldsOf w).rsv = 0 ∧ (fieldsOf w).imm8 = 0 := by
  simp only [matchesRow, beq_iff_eq]
  constructor
  · intro h
    have hb := fun i => congrArg (fun x : Word16 => x.getLsbD i) h
    simp only [BitVec.getLsbD_and] at hb
    refine ⟨?_, ?_, ?_, ?_⟩ <;> apply BitVec.eq_of_getLsbD_eq <;> intro i hi <;>
      simp only [fieldsOf, BitVec.getLsbD_extractLsb']
    · have := hb i; interval_cases i <;> simp_all
    · have := hb (4 + i); interval_cases i; simp_all
    · have := hb (6 + i); interval_cases i <;> simp_all
    · have := hb (8 + i); interval_cases i <;> simp_all
  · rintro ⟨h1, h2, h3, h4⟩
    rw [word_eq_fields w, h1, h2, h3, h4]
    apply BitVec.eq_of_getLsbD_eq
    intro i hi
    simp only [BitVec.getLsbD_append, BitVec.getLsbD_and]
    interval_cases i <;> simp

/-- The fields of an assembled word are the fields it was assembled from. -/
theorem fieldsOf_wordOfFields (op : BitVec 4) (bo inv : BitVec 1) (v : Byte) :
    fieldsOf (wordOfFields op bo inv v) = { op := op, bo := bo, inv := inv, rsv := 0, imm8 := v } := by
  simp only [fieldsOf, wordOfFields, Fields.mk.injEq]
  refine ⟨?_, ?_, ?_, ?_, ?_⟩ <;> apply BitVec.eq_of_getLsbD_eq <;> intro i hi <;>
    simp only [BitVec.getLsbD_append, BitVec.getLsbD_extractLsb'] <;> interval_cases i <;> simp

/-- A word of the T_ENCODE row is legal (R84). -/
theorem legalWord_of_tEncode {w : Word16} (h : matchesRow w 0x00EF 0x0004 = true) : legalWord w = true := by
  obtain ⟨h1, h2, h3⟩ := (matchesRow_tEncode w).1 h
  simp [legalWord, zeroFieldsOk, h1, h2, h3]

/-- A word of the T_INVERT row is legal (R84). -/
theorem legalWord_of_tInvert {w : Word16} (h : matchesRow w 0xFFDF 0x0006 = true) : legalWord w = true := by
  obtain ⟨h1, h2, h3, h4⟩ := (matchesRow_tInvert w).1 h
  simp [legalWord, zeroFieldsOk, h1, h2, h3, h4]

end Sys2Proof
end

