-- ==== Sys2Proof/Laws/Commands.lean ====
section
/-! SUPPORT. What each shared operation, each meaning and a step can do: one inversion lemma for each. -/

namespace Sys2Proof.Machine

theorem busy_eq_false {s : State} : s.busy = false ↔ s.drv = .off ∨ s.drv = .idle := by
  cases h : s.drv <;> simp [State.busy, h]

theorem busy_eq_true {s : State} : s.busy = true ↔ s.drv = .encoding ∨ s.drv = .transmitting := by
  cases h : s.drv <;> simp [State.busy, h]

theorem whenFree_busy {s : State} {r : Outcome} (h : s.busy = true) : s.whenFree r = .next s.markConcurrent := by
  simp [State.whenFree, h]

theorem whenFree_free {s : State} {r : Outcome} (h : s.busy = false) : s.whenFree r = r := by
  simp [State.whenFree, h]

/-- A command either hits the concurrency fault or runs its body. -/
theorem whenFree_next {s t : State} {r : Outcome} (h : s.whenFree r = .next t) :
    (s.busy = true ∧ t = s.markConcurrent) ∨ (s.busy = false ∧ r = .next t) := by
  cases hb : s.busy
  · exact .inr ⟨rfl, by simpa [State.whenFree, hb] using h⟩
  · refine .inl ⟨rfl, ?_⟩
    simp only [State.whenFree, hb, if_true, Host.Outcome.next.injEq] at h
    exact h.symm

/-- A test-mode command hits the concurrency fault, ends with ILLEGAL_STATE in OFF, or runs its body in IDLE. -/
theorem testMode_next {s t : State} {i : Instr} {r : Outcome} (h : s.testMode i r = .next t) :
    (s.busy = true ∧ t = s.markConcurrent) ∨
    (s.drv = .off ∧ t = s.complete s.issuer .illegalState (wordInfo (commandWord i))) ∨
    (s.drv = .idle ∧ r = .next t) := by
  obtain h | ⟨hb, h⟩ := whenFree_next h
  · exact .inl h
  · right
    obtain hd | hd := busy_eq_false.1 hb
    · left
      simp only [hd, if_true, State.raiseIllegalState, State.raise, Host.Outcome.next.injEq] at h
      exact ⟨hd, h.symm⟩
    · right
      simp only [hd] at h
      exact ⟨hd, by simpa using h⟩

theorem raise_next {s t : State} {e : CmdResult} {info : Word32} (h : s.raise e info = .next t) :
    t = s.complete s.issuer e info := by
  simp only [State.raise, Host.Outcome.next.injEq] at h
  exact h.symm

theorem execNop_next {s t : State} (h : execNop s = .next t) :
    (s.busy = true ∧ t = s.markConcurrent) ∨ (s.busy = false ∧ t = s.completeOk) := by
  obtain h | ⟨hb, h⟩ := whenFree_next h
  · exact .inl h
  · simp only [Host.Outcome.next.injEq] at h; exact .inr ⟨hb, h.symm⟩

theorem execIllegal_next {w : Word16} {s t : State} (h : execIllegal w s = .next t) :
    (s.busy = true ∧ t = s.markConcurrent) ∨
    (s.busy = false ∧ t = s.complete s.issuer (.illegalCommand (illegalSub w)) (wordInfo w)) := by
  obtain h | ⟨hb, h⟩ := whenFree_next h
  · exact .inl h
  · exact .inr ⟨hb, raise_next h⟩

theorem execShutdown_next {s t : State} (h : execShutdown s = .next t) :
    (s.busy = true ∧ t = s.markConcurrent) ∨ (s.drv = .off ∧ t = s.completeOk) ∨
    (s.drv = .idle ∧ t = s.closeDriver.completeOk) := by
  obtain h | ⟨hb, h⟩ := whenFree_next h
  · exact .inl h
  · obtain hd | hd := busy_eq_false.1 hb <;> simp [hd] at h <;> simp [hd, h]

/-- Everything an INIT that is executed can do; every outcome has taken the draw (R8, R20). -/
theorem execInit_next {s t : State} (h : execInit s = .next t) :
    (s.busy = true ∧ t = s.markConcurrent) ∨
    (s.drv = .idle ∧ t = s.afterClaim.complete s.issuer .illegalState (wordInfo (commandWord .init))) ∨
    (s.drv = .off ∧ ∃ sub n, checkConfig s.pinOk s.configPort = .bad sub n ∧
      t = s.afterClaim.complete s.issuer (.configurationError sub) (BitVec.ofNat 32 n)) ∨
    (s.drv = .off ∧ ∃ k, checkConfig s.pinOk s.configPort = .legal k ∧ s.claimedElsewhere = true ∧
      t = s.afterClaim.complete s.issuer .resourceConflict 0) ∨
    (s.drv = .off ∧ ∃ k, checkConfig s.pinOk s.configPort = .legal k ∧ s.claimedElsewhere = false ∧
      t = (s.afterClaim.openDriver k s.configPort (capacityWarning k s.configPort)).completeOk) := by
  obtain h | ⟨hb, h⟩ := whenFree_next h
  · exact .inl h
  · right
    have hp : s.afterClaim.pinOk = s.pinOk := rfl
    obtain hd | hd := busy_eq_false.1 hb
    · right
      simp only [initBody, State.afterClaim_drv, hd, if_true, hp, State.afterClaim_configPort] at h
      split at h
      next sub n hv => exact .inl ⟨hd, sub, n, hv, raise_next h⟩
      next k hv =>
        right
        unfold claimAndOpen at h
        split at h
        next hc => exact .inl ⟨hd, k, hv, hc, raise_next h⟩
        next hc => exact .inr ⟨hd, k, hv, by simpa using hc, by simpa using h.symm⟩
    · left
      simp only [initBody, State.afterClaim_drv, hd] at h
      exact ⟨hd, raise_next (by simpa [State.raiseIllegalState] using h)⟩

theorem execRender_next {s t : State} (h : execRender s = .next t) :
    (s.busy = true ∧ t = s.markConcurrent) ∨
    (s.drv = .off ∧ t = s.complete s.issuer .illegalState (wordInfo (commandWord .render))) ∨
    (s.drv = .idle ∧ ∃ c, s.cfg = some c ∧ s.pixelPort.length = c.ledCount.toNat ∧
      t = s.startRender s.pixelPort) ∨
    (s.drv = .idle ∧ ∃ c, s.cfg = some c ∧ s.pixelPort.length ≠ c.ledCount.toNat ∧ t = s.markRefused) := by
  obtain h | ⟨hb, h⟩ := whenFree_next h
  · exact .inl h
  · right
    obtain hd | hd := busy_eq_false.1 hb
    · left
      simp only [hd, if_true] at h
      exact ⟨hd, raise_next (by simpa [State.raiseIllegalState] using h)⟩
    · right
      simp only [hd] at h
      cases hc : s.cfg with
      | none => simp [hc] at h
      | some c =>
        by_cases hl : s.pixelPort.length = c.ledCount.toNat
        · left; simp [hc, hl] at h; exact ⟨hd, c, rfl, hl, h.symm⟩
        · right; simp [hc, hl] at h; exact ⟨hd, c, rfl, hl, h.symm⟩

theorem execTEncode_next {v : Byte} {bo : BitOrder} {s t : State} (h : execTEncode v bo s = .next t) :
    (s.busy = true ∧ t = s.markConcurrent) ∨
    (s.drv = .off ∧ t = s.complete s.issuer .illegalState (wordInfo (commandWord (.tEncode v bo)))) ∨
    (s.drv = .idle ∧ t = s.finishTest (.syms (encodeFrame v bo))) := by
  obtain h | h | ⟨hd, h⟩ := testMode_next h
  · exact .inl h
  · exact .inr (.inl h)
  · simp only [Host.Outcome.next.injEq] at h; exact .inr (.inr ⟨hd, h.symm⟩)

theorem execTSerialize_next {s t : State} (h : execTSerialize s = .next t) :
    (s.busy = true ∧ t = s.markConcurrent) ∨
    (s.drv = .off ∧ t = s.complete s.issuer .illegalState (wordInfo (commandWord .tSerialize))) ∨
    (s.drv = .idle ∧ ∃ c, s.cfg = some c ∧
      ((serializeCfg c s.pixelPort = none ∧ t = s.complete s.issuer (.configurationError .channelOrder) 0) ∨
       ∃ f, serializeCfg c s.pixelPort = some f ∧ t = s.finishTest (.syms f))) := by
  obtain h | h | ⟨hd, h⟩ := testMode_next h
  · exact .inl h
  · exact .inr (.inl h)
  · refine .inr (.inr ⟨hd, ?_⟩)
    cases hc : s.cfg with
    | none => simp [hc] at h
    | some c =>
      refine ⟨c, rfl, ?_⟩
      cases hf : serializeCfg c s.pixelPort with
      | none => simp only [hc, hf] at h; exact .inl ⟨rfl, raise_next h⟩
      | some f => simp only [hc, hf, Host.Outcome.next.injEq] at h; exact .inr ⟨f, rfl, h.symm⟩

theorem execTInvert_next {inv : Bool} {s t : State} (h : execTInvert inv s = .next t) :
    (s.busy = true ∧ t = s.markConcurrent) ∨
    ((s.drv = .off ∨ (s.drv = .idle ∧ ∀ f, s.testReg ≠ .syms f)) ∧
      t = s.complete s.issuer .illegalState (wordInfo (commandWord (.tInvert inv)))) ∨
    (s.drv = .idle ∧ ∃ f, s.testReg = .syms f ∧ t = s.finishTest (.syms (applyInversion f inv))) := by
  obtain h | ⟨hd, h⟩ | ⟨hd, h⟩ := testMode_next h
  · exact .inl h
  · exact .inr (.inl ⟨.inl hd, h⟩)
  · right
    cases hr : s.testReg with
    | none => simp only [hr] at h; exact .inl ⟨.inr ⟨hd, by simp⟩, raise_next h⟩
    | units k b => simp only [hr] at h; exact .inl ⟨.inr ⟨hd, by simp⟩, raise_next h⟩
    | syms f => simp only [hr, Host.Outcome.next.injEq] at h; exact .inr ⟨hd, f, rfl, h.symm⟩

theorem execTMap_next {s t : State} (h : execTMap s = .next t) :
    (s.busy = true ∧ t = s.markConcurrent) ∨
    ((s.drv = .off ∨ (s.drv = .idle ∧ ∀ f, s.testReg ≠ .syms f)) ∧
      t = s.complete s.issuer .illegalState (wordInfo (commandWord .tMap))) ∨
    (s.drv = .idle ∧ ∃ f c k, s.testReg = .syms f ∧ s.cfg = some c ∧ kindOfCode c.kind = some k ∧
      ((overflows c (bytesOf k c f) = true ∧
        t = s.complete s.issuer .bufferOverflow (overflowInfo (bytesOf k c f).length)) ∨
       (overflows c (bytesOf k c f) = false ∧ t = s.finishTest (.units k (bytesOf k c f))))) := by
  obtain h | ⟨hd, h⟩ | ⟨hd, h⟩ := testMode_next h
  · exact .inl h
  · exact .inr (.inl ⟨.inl hd, h⟩)
  · right
    cases hr : s.testReg with
    | none => simp only [hr] at h; exact .inl ⟨.inr ⟨hd, by simp⟩, raise_next h⟩
    | units k b => simp only [hr] at h; exact .inl ⟨.inr ⟨hd, by simp⟩, raise_next h⟩
    | syms f =>
      right
      cases hc : s.cfg with
      | none => simp [hr, hc] at h
      | some c =>
        cases hk : kindOfCode c.kind with
        | none => simp [hr, hc, hk] at h
        | some k =>
          refine ⟨hd, f, c, k, rfl, rfl, hk, ?_⟩
          simp only [hr, hc, hk, mapSymbols] at h
          split at h
          next ho => exact .inl ⟨ho, raise_next h⟩
          next ho => simp only [Host.Outcome.next.injEq] at h; exact .inr ⟨by simpa using ho, h.symm⟩

/-- Everything the Encoding stage can do when it answers a next state. -/
theorem encodingStage_next {k : Kind} {c : ConfigRecord} {s t : State} (h : encodingStage k c s = .next t) :
    ∃ p, s.pending = some p ∧
      ((renderFrame c p.strip = none ∧ t = s.endRender (.configurationError .channelOrder) 0) ∨
       ∃ f, renderFrame c p.strip = some f ∧
        ((overflows c (bytesOf k c f) = true ∧
          t = s.endRender .bufferOverflow (overflowInfo (bytesOf k c f).length)) ∨
         (overflows c (bytesOf k c f) = false ∧ ∃ m m', s.txbuf = some m ∧ m.fill 0 (bytesOf k c f) = some m' ∧
          t = s.startTransmit p { frame := f, bytes := bytesOf k c f, nbytes := (bytesOf k c f).length } m'))) := by
  unfold encodingStage at h
  cases hp : s.pending with
  | none => simp [hp] at h
  | some p =>
    refine ⟨p, rfl, ?_⟩
    simp only [hp] at h
    cases hf : renderFrame c p.strip with
    | none => simp only [hf, Host.Outcome.next.injEq] at h; exact .inl ⟨rfl, h.symm⟩
    | some f =>
      refine .inr ⟨f, rfl, ?_⟩
      simp only [hf] at h
      split at h
      next ho => simp only [Host.Outcome.next.injEq] at h; exact .inl ⟨ho, h.symm⟩
      next ho =>
        right
        unfold fillBuffer at h
        cases hm : s.txbuf with
        | none => simp [hm] at h
        | some m =>
          simp only [hm] at h
          cases hm' : m.fill 0 (bytesOf k c f) with
          | none => simp [hm'] at h
          | some m' =>
            simp only [hm', Host.Outcome.next.injEq] at h
            exact ⟨by simpa using ho, m, m', rfl, hm', h.symm⟩

/-- The pending frame is read exactly where TXBUF holds a byte at every index of it (R60). -/
theorem readFrame_eq_ok (s : State) (e : Encoded) (b : List Byte) :
    readFrame s e = .ok b ↔
      (∃ m, s.txbuf = some m) ∧ b.length = e.nbytes ∧ ∀ j < e.nbytes, s.bufferByte j = b[j]? := by
  unfold readFrame State.bufferByte
  cases hm : s.txbuf with
  | none => simp
  | some m =>
    have h := Memory.readBytes_eq_some m 0 e.nbytes b
    simp only [Nat.zero_add] at h
    cases hr : m.readBytes 0 e.nbytes <;> simp [hr, ← h]

/-- Everything the Transmitting stage can do when it answers a next state. -/
theorem transmittingStage_next {k : Kind} {c : ConfigRecord} {s t : State}
    (h : transmittingStage k c s = .next t) :
    ∃ p e b, s.pending = some p ∧ p.encoded = some e ∧ readFrame s e = .ok b ∧
      t = sendFrame k c s p.strip e b := by
  unfold transmittingStage at h
  cases hp : s.pending with
  | none => simp [hp] at h
  | some p =>
    cases he : p.encoded with
    | none => simp [hp, he] at h
    | some e =>
      cases hr : readFrame s e with
      | error r => simp [hp, he, hr] at h
      | ok b =>
        simp only [hp, he, hr, Host.Outcome.next.injEq] at h
        exact ⟨p, e, b, rfl, he, hr, h.symm⟩

/-- A TRANSMIT row answers a next state only as the enabled stage of its kind. -/
theorem transmitStage_next {k : Kind} {s t : State} (h : transmitStage k s = .next t) :
    ∃ c, s.cfg = some c ∧ kindOfCode c.kind = some k ∧
      ((s.drv = .encoding ∧ encodingStage k c s = .next t) ∨
       (s.drv = .transmitting ∧ transmittingStage k c s = .next t)) := by
  unfold transmitStage at h
  cases hc : s.cfg with
  | none => simp only [hc] at h; split at h <;> cases h
  | some c =>
    simp only [hc] at h
    split at h
    next hk =>
      refine ⟨c, rfl, hk, ?_⟩
      cases hd : s.drv <;> simp [hd] at h <;> simp [h]
    next => cases h

/-- A step runs an instruction or takes a host event. -/
theorem step_next {s t : State} (h : step s = .next t) :
    (∃ i u, nextTurn s = .run i u ∧ exec i u = .next t) ∨ nextTurn s = .host t := by
  unfold step at h
  cases hn : nextTurn s with
  | run i u => simp only [hn] at h; exact .inl ⟨i, u, rfl, h⟩
  | host u => simp only [hn, Host.Outcome.next.injEq] at h; subst h; exact .inr rfl
  | stop r => simp [hn] at h

/-- A thread blocked for good: what it would do is dropped (log entry 8). -/
theorem threadTurn_hung {s : State} {t : Nat} {a : HostAct} (h : t ∈ s.hung) :
    threadTurn s t a = .host s.popAgenda := by
  simp [threadTurn, h]

/-- A thread blocked in the render in flight: the driver steps first (log entry 7). -/
theorem threadTurn_waits {s : State} {t : Nat} {a : HostAct} (h : t ∉ s.hung) (hw : s.waits t = true) :
    threadTurn s t a = driverTurn s := by
  simp [threadTurn, h, hw]

/-- A thread that is blocked in nothing acts. -/
theorem threadTurn_free {s : State} {t : Nat} {a : HostAct} (h : t ∉ s.hung) (hw : s.waits t = false) :
    threadTurn s t a = actTurn s t a := by
  simp [threadTurn, h, hw]

/-- Everything the driver's turn can be. -/
theorem driverTurn_run {s u : State} {i : Instr} (h : driverTurn s = .run i u) :
    u = s ∧ s.busy = true ∧ ∃ k, cfgKind s.cfg = some k ∧ i = stageInstr k := by
  unfold driverTurn at h
  split at h
  next hb =>
    cases hk : cfgKind s.cfg with
    | none => simp [hk] at h
    | some k => simp only [hk, Turn.run.injEq] at h; exact ⟨h.2.symm, hb, k, rfl, h.1.symm⟩
  next => cases h

theorem driverTurn_host {s u : State} (h : driverTurn s = .host u) : u = s ∧ s.busy = false := by
  unfold driverTurn at h
  split at h
  next hb => cases hk : cfgKind s.cfg <;> simp [hk] at h
  next hb => simp only [Turn.host.injEq] at h; exact ⟨h.symm, by simpa using hb⟩

end Sys2Proof.Machine
end

