-- ==== Sys2Proof/Laws/PerInstr.lean ====
section
/-! SUPPORT. Statements made per instruction. The family `EncodingRow`: the word of a well-formed instruction matches its
own row of R85; the TRANSMIT rows have no word (R86), and an illegal word matches no row (R84). -/

namespace Sys2Proof.Laws

/-- The row of R85 an instruction belongs to, as a test on a word. -/
def EncodingRow.row (w : Word16) : Instr → Bool
  | .nop => matchesRow w 0xFFFF 0x0000
  | .init => matchesRow w 0xFFFF 0x0001
  | .render => matchesRow w 0xFFFF 0x0002
  | .shutdown => matchesRow w 0xFFFF 0x0003
  | .tEncode _ _ => matchesRow w 0x00EF 0x0004
  | .tSerialize => matchesRow w 0xFFFF 0x0005
  | .tInvert _ => matchesRow w 0xFFDF 0x0006
  | .tMap => matchesRow w 0xFFFF 0x0007
  | .transmitSpi => false
  | .transmitPwm => false
  | .transmitPcm => false
  | .illegal _ =>
    !(matchesRow w 0xFFFF 0x0000 || matchesRow w 0xFFFF 0x0001 || matchesRow w 0xFFFF 0x0002 ||
      matchesRow w 0xFFFF 0x0003 || matchesRow w 0x00EF 0x0004 || matchesRow w 0xFFFF 0x0005 ||
      matchesRow w 0xFFDF 0x0006 || matchesRow w 0xFFFF 0x0007)

/-- The word of a well-formed instruction matches its row. -/
def EncodingRow.Statement (i : Instr) : Prop :=
  i.wellFormed = true → ∀ w, encode i = some w → EncodingRow.row w i = true

theorem EncodingRow.nop : EncodingRow.Statement .nop := by
  rintro - w h; cases h; rfl

theorem EncodingRow.init : EncodingRow.Statement .init := by
  rintro - w h; cases h; rfl

theorem EncodingRow.render : EncodingRow.Statement .render := by
  rintro - w h; cases h; rfl

theorem EncodingRow.shutdown : EncodingRow.Statement .shutdown := by
  rintro - w h; cases h; rfl

theorem EncodingRow.tEncode (v : Byte) (bo : BitOrder) : EncodingRow.Statement (.tEncode v bo) := by
  rintro - w h
  cases h
  exact (matchesRow_tEncode _).2 (by simp [fieldsOf_wordOfFields])

theorem EncodingRow.tSerialize : EncodingRow.Statement .tSerialize := by
  rintro - w h; cases h; rfl

theorem EncodingRow.tInvert (inv : Bool) : EncodingRow.Statement (.tInvert inv) := by
  rintro - w h
  cases h
  exact (matchesRow_tInvert _).2 (by simp [fieldsOf_wordOfFields])

theorem EncodingRow.tMap : EncodingRow.Statement .tMap := by
  rintro - w h; cases h; rfl

theorem EncodingRow.transmitSpi : EncodingRow.Statement .transmitSpi := by
  rintro - w h; cases h

theorem EncodingRow.transmitPwm : EncodingRow.Statement .transmitPwm := by
  rintro - w h; cases h

theorem EncodingRow.transmitPcm : EncodingRow.Statement .transmitPcm := by
  rintro - w h; cases h

theorem EncodingRow.illegal (u : Word16) : EncodingRow.Statement (.illegal u) := by
  intro hw w h
  cases h
  have hl : legalWord u = false := by simpa [Instr.wellFormed] using hw
  have hfull : ∀ v : Word16, legalWord v = true → matchesRow u 0xFFFF v = false := by
    intro v hv
    by_contra hne
    have := (matchesRow_full u v).1 (by simpa using hne)
    simp [this, hv] at hl
  have he : matchesRow u 0x00EF 0x0004 = false := by
    by_contra hne
    simp [legalWord_of_tEncode (by simpa using hne : matchesRow u 0x00EF 0x0004 = true)] at hl
  have hi : matchesRow u 0xFFDF 0x0006 = false := by
    by_contra hne
    simp [legalWord_of_tInvert (by simpa using hne : matchesRow u 0xFFDF 0x0006 = true)] at hl
  simp only [EncodingRow.row]
  rw [he, hi, hfull 0x0000 (by decide), hfull 0x0001 (by decide), hfull 0x0002 (by decide), hfull 0x0003 (by decide),
    hfull 0x0005 (by decide), hfull 0x0007 (by decide)]
  rfl

end Sys2Proof.Laws
end

