-- ==== Sys2Proof/Tests/Slice0.lean ====
section
/-! SUPPORT. Tests, and for each statement that has hypotheses a state that meets them. Expected values are those of
spec/95_test_vectors.md, whose table is named at each test, or are written out from the rule named. -/

namespace Sys2Proof.Tests

open Sys2Proof.Machine Sys2Proof.Safety

/-! ## Small states -/

/-- A PCM sequence: the given entries, then zeros (R96). -/
def seq16 (l : List Word32) : Vector Word32 16 := Vector.ofFn fun i => l.getD i.val 0

/-- The reference profile P0 for one pixel (95_test_vectors.md). -/
def p0 : ConfigRecord where
  kind := 0
  pin := 0
  invert := false
  ledCount := 1
  order := 0xE4
  capacity := 4096
  bitOrder := .msb
  leadIdle := 0
  trailIdle := 32
  spiBps := 4
  spiPatOne := 0x000C
  spiPatZero := 0x0008
  spiIdleBit := false
  pwmWordBytes := 4
  pwmRange := 4
  pwmDutyOne := 2
  pwmDutyZero := 1
  pwmDutyIdle := 0
  pcmSps := 4
  pcmSampleBytes := 1
  pcmSeqOne := seq16 [0xFF, 0xFF, 0, 0]
  pcmSeqZero := seq16 [0xFF, 0, 0, 0]
  pcmSeqIdle := seq16 [0, 0, 0, 0]

/-- P0 over PWM and over PCM. -/
def p0Pwm : ConfigRecord := { p0 with kind := 1 }
def p0Pcm : ConfigRecord := { p0 with kind := 2 }

/-- The pixel (FF,00,00,00) of the vectors. -/
def red : Pixel := ⟨0xFF, 0, 0, 0⟩

/-- A state in OFF with a record and a one-pixel strip on the ports, pin 0 legal and the answers loaded. -/
def off (c : ConfigRecord) : State :=
  { State.reset with
    configPort := c
    pixelPort := [red]
    pinTable := some [(.spi, 0), (.pwm, 0), (.pcm, 0)]
    claimAnswer := some false
    writeAnswer := some .ok }

/-- The same in IDLE, as INIT leaves it. -/
def idle (k : Kind) (c : ConfigRecord) : State :=
  { off c with
    cfg := some c
    drv := .idle
    handle := some ⟨k, 0⟩
    txbuf := some ⟨c.capacity.toNat, []⟩
    warnCap := capacityWarning k c }

/-- The state an outcome gives, where it gives one. -/
def after (o : Outcome) : State :=
  match o with
  | .next t => t
  | .fault _ => State.reset
  | .refused _ => State.reset

/-- Whether an outcome is a next state. -/
def isNext (o : Outcome) : Bool :=
  match o with
  | .next _ => true
  | .fault _ => false
  | .refused _ => false

/-- A render in flight, before and after its Encoding stage. -/
def encodingAt (k : Kind) (c : ConfigRecord) : State := after (exec .render (idle k c))
def sendingAt (k : Kind) (c : ConfigRecord) : State := after (exec (stageInstr k) (encodingAt k c))

/-- The symbols of a byte, first in time first. -/
def syms (l : List Nat) : Frame := l.map fun n => if n = 1 then .one else .zero

/-- The 32 bytes of the one-pixel strip (FF,00,00,00) at P0: A of program P4. -/
def bytesA : List Byte := List.replicate 4 0xCC ++ List.replicate 12 0x88 ++ List.replicate 16 0x00

/-! ## Well-formedness and decoding (V-DECODE) -/

/-- `illegal` stands for no legal word (R84). -/
theorem test_wellFormed_refuses_legal_words :
    [0x0000, 0x0001, 0x0002, 0x0003, 0xFF14, 0x0005, 0x0026, 0x0007].map
      (fun w : Word16 => (Instr.illegal w).wellFormed) = List.replicate 8 false := by decide

theorem test_wellFormed_accepts_illegal_words :
    [0x0008, 0x0040, 0x0101, 0x0024, 0x0106].map (fun w : Word16 => (Instr.illegal w).wellFormed) =
      List.replicate 5 true := by decide

/-- Words written out bit by bit: IMM8, RSV, INV, BO, OP (R80). -/
theorem test_decode_nop : decode (0b00000000#8 ++ 0b00#2 ++ 0b0#1 ++ 0b0#1 ++ 0b0000#4) = .nop := by decide
theorem test_decode_init : decode (0b00000000#8 ++ 0b00#2 ++ 0b0#1 ++ 0b0#1 ++ 0b0001#4) = .init := by decide
theorem test_decode_render : decode (0b00000000#8 ++ 0b00#2 ++ 0b0#1 ++ 0b0#1 ++ 0b0010#4) = .render := by decide
theorem test_decode_shutdown : decode (0b00000000#8 ++ 0b00#2 ++ 0b0#1 ++ 0b0#1 ++ 0b0011#4) = .shutdown := by decide
theorem test_decode_tEncode :
    decode (0b10100101#8 ++ 0b00#2 ++ 0b0#1 ++ 0b0#1 ++ 0b0100#4) = .tEncode 0xA5 .msb ∧
    decode (0b00010010#8 ++ 0b00#2 ++ 0b0#1 ++ 0b1#1 ++ 0b0100#4) = .tEncode 0x12 .lsb := by decide
theorem test_decode_tSerialize :
    decode (0b00000000#8 ++ 0b00#2 ++ 0b0#1 ++ 0b0#1 ++ 0b0101#4) = .tSerialize := by decide
theorem test_decode_tInvert :
    decode (0b00000000#8 ++ 0b00#2 ++ 0b0#1 ++ 0b0#1 ++ 0b0110#4) = .tInvert false ∧
    decode (0b00000000#8 ++ 0b00#2 ++ 0b1#1 ++ 0b0#1 ++ 0b0110#4) = .tInvert true := by decide
theorem test_decode_tMap : decode (0b00000000#8 ++ 0b00#2 ++ 0b0#1 ++ 0b0#1 ++ 0b0111#4) = .tMap := by decide
theorem test_decode_illegal :
    [0x0008, 0x000F, 0x0108, 0x0040, 0x0101, 0x0012, 0x0024, 0x0084, 0x0016, 0x0106].map decode =
      [.illegal 0x0008, .illegal 0x000F, .illegal 0x0108, .illegal 0x0040, .illegal 0x0101, .illegal 0x0012,
        .illegal 0x0024, .illegal 0x0084, .illegal 0x0016, .illegal 0x0106] := by decide

/-- The host's numbering, and its fetch: an issued word runs from reset. -/
theorem test_decodeTableWord : decodeTableWord 16 0x1214 = some (.tEncode 0x12 .lsb) ∧ decodeTableWord 8 0 = none := by
  decide
theorem test_fetch_runs_the_word :
    (after (step (State.reset.withFetchWord 16 0xA504))).errInfo = 0x0000A504 := by decide

/-! ## The commands -/

theorem test_nop : (after (exec .nop { off p0 with result := 0x06, errInfo := 7 })).status = 0x0000 := by decide

/-- V-STATE: any word in flight. -/
theorem test_nop_in_flight :
    let t := after (exec .nop (encodingAt .spi p0))
    t.faultConcurrent = true ∧ t.drv = .encoding ∧ t.completions = [] := by decide

/-- V-INIT, I-1, and I-14 to I-16: the capacity warning. -/
theorem test_init_opens :
    let t := after (exec .init (off p0))
    t.status = 0x0011 ∧ t.handle = some ⟨.spi, 0⟩ ∧ t.errInfo = 0 ∧ t.txbuf = some ⟨4096, []⟩ ∧
    [{ p0 with ledCount := 301 }, { p0 with ledCount := 255 }, { p0 with capacity := 0 }].map
      (fun c => (after (exec .init (off c))).status) = [0x0015, 0x0011, 0x0015] := by decide

/-- The RESULT and ERR_INFO of INIT in OFF on a record. -/
def initResult (c : ConfigRecord) : Byte × Word32 :=
  ((after (exec .init (off c))).result, (after (exec .init (off c))).errInfo)

/-- V-INIT, I-2 to I-11 and I-18 to I-30; and one draw per INIT, one that fails its check and one in IDLE included
(R8, R20). -/
theorem test_init_checks :
    [{ p0 with kind := 3 }, { p0 with order := 0xE0 }, { p0 with pin := 1 }, { p0 with trailIdle := 0 },
     { p0 with spiBps := 0 }, { p0 with spiBps := 17 }, { p0 with spiPatOne := 0x1C }, { p0 with spiPatZero := 0x10 },
     { p0 with spiPatZero := 0xC }, { p0 with kind := 3, order := 0xE0 }].map initResult =
    [(0x21, 0), (0x11, 0), (0x31, 0), (0x41, 1), (0x41, 2), (0x41, 2), (0x41, 3), (0x41, 4), (0x41, 5), (0x21, 0)] ∧
    [{ p0Pwm with pwmWordBytes := 3 }, { p0Pwm with pwmRange := 0 }, { p0Pwm with pwmWordBytes := 1, pwmRange := 256 },
     { p0Pwm with pwmDutyOne := 5 }, { p0Pwm with pwmDutyZero := 5 }, { p0Pwm with pwmDutyIdle := 5 },
     { p0Pwm with pwmDutyZero := 2 }, { p0Pwm with spiBps := 0 }].map initResult =
    [(0x41, 6), (0x41, 7), (0x41, 7), (0x41, 8), (0x41, 9), (0x41, 10), (0x41, 11), (0x00, 0)] ∧
    [{ p0Pcm with pcmSps := 0 }, { p0Pcm with pcmSampleBytes := 3 },
     { p0Pcm with pcmSeqOne := seq16 [0xFF, 0xFF, 0, 0, 1] }, { p0Pcm with pcmSeqZero := seq16 [0x100] },
     { p0Pcm with pcmSeqZero := seq16 [0xFF, 0xFF, 0, 0] }].map initResult =
    [(0x41, 12), (0x41, 13), (0x41, 14), (0x41, 14), (0x41, 15)] ∧
    [exec .init (off { p0 with trailIdle := 0 }), exec .init (idle .spi p0), exec .init (off p0)].map
      (fun o => ((after o).claimAnswer, (after o).draws)) = List.replicate 3 (none, 1) := by decide

/-- V-STATE: RENDER in OFF. -/
theorem test_render_in_off :
    let t := after (exec .render (off p0))
    t.result = 0x06 ∧ t.errInfo = 0x00000002 ∧ t.refused = false := by decide

/-- V-STATE: RENDER of a strip of another length. -/
theorem test_render_refused :
    let t := after (exec .render (idle .spi { p0 with ledCount := 2 }))
    t.refused = true ∧ t.drv = .idle ∧ t.completions = [] := by decide

theorem test_shutdown :
    let t := after (exec .shutdown (idle .spi p0))
    t.status = 0x0000 ∧ t.handle = none ∧ t.txbuf = none := by decide

/-- V-ENC: T_ENCODE ignores CFG.BIT_ORDER. -/
theorem test_tEncode :
    (after (exec (.tEncode 0x12 .lsb) (idle .spi p0))).testReg = .syms (syms [0, 1, 0, 0, 1, 0, 0, 0]) ∧
    (after (exec (.tEncode 0x12 .msb) (idle .spi p0))).testReg = .syms (syms [0, 0, 0, 1, 0, 0, 1, 0]) := by decide

/-- V-SER, S5: lead and trail IDLE and the order WBGR. -/
theorem test_tSerialize :
    (after (exec .tSerialize { idle .spi { p0 with order := 0x1B, leadIdle := 2, trailIdle := 2 } with
      pixelPort := [⟨1, 2, 3, 4⟩] })).testReg =
    .syms ([.idle, .idle] ++ syms [0, 0, 0, 0, 0, 1, 0, 0, 0, 0, 0, 0, 0, 0, 1, 1, 0, 0, 0, 0, 0, 0, 1, 0,
      0, 0, 0, 0, 0, 0, 0, 1] ++ [.idle, .idle]) := by decide

/-- V-INV: IDLE stays. -/
theorem test_tInvert :
    (after (exec (.tInvert true) { idle .spi p0 with testReg := .syms [.idle, .idle, .zero, .one, .idle] })).testReg =
      .syms [.idle, .idle, .one, .zero, .idle] := by decide

theorem test_tInvert_without_symbols :
    let t := after (exec (.tInvert true) (idle .spi p0))
    t.result = 0x06 ∧ t.errInfo = 0x00000026 ∧ t.testReg = .none := by decide

/-- V-MAP. -/
theorem test_tMap :
    (after (exec .tMap { idle .spi p0 with testReg := .syms (syms [0, 1, 0, 0, 1, 0, 0, 0]) })).testReg =
      .units .spi [0x8C, 0x88, 0xC8, 0x88] ∧
    (after (exec .tMap { idle .pwm p0Pwm with testReg := .syms (syms [0, 1]) })).testReg =
      .units .pwm [1, 0, 0, 0, 2, 0, 0, 0] := by decide

theorem test_tMap_overflow :
    let t := after (exec .tMap { idle .spi { p0 with capacity := 0 } with testReg := .syms [.idle] })
    t.result = 0x02 ∧ t.errInfo = 1 ∧ t.testReg = .syms [.idle] := by decide

/-- V-DECODE: an illegal word in OFF. -/
theorem test_illegal :
    let t := after (exec (.illegal 0x0108) (off p0))
    let u := after (exec (.illegal 0x0024) (off p0))
    t.result = 0x15 ∧ t.errInfo = 0x00000108 ∧ u.result = 0x25 ∧ u.drv = .off := by decide

/-! ## The stages -/

/-- Program P4, frame A: the bytes in TXBUF after the Encoding stage. -/
theorem test_transmitSpi_encodes :
    (List.range 33).map (sendingAt .spi p0).bufferByte = bytesA.map some ++ [none] := by decide +kernel

/-- Program P4: a write that fails after 5 units; and the write reads TXBUF (R60): another byte there goes out. -/
theorem test_transmitSpi_fails :
    let t := after (exec .transmitSpi { sendingAt .spi p0 with writeAnswer := some (.fail 5) })
    t.result = 0x04 ∧ t.errInfo = 5 ∧ t.wire = [⟨.spi, List.replicate 4 0xCC ++ [0x88], .fail⟩] ∧ t.lastGood = none ∧
    let s := sendingAt .spi p0
    (after (exec .transmitSpi { s with txbuf := s.txbuf.bind fun m => m.setByte 31 0x5A })).wire =
      [⟨.spi, bytesA.take 31 ++ [0x5A], .ok⟩] := by decide +kernel

/-- V-PWM: ONE is 02 00 00 00; program P3: 256 bytes. -/
theorem test_transmitPwm_encodes :
    (List.range 4).map (sendingAt .pwm p0Pwm).bufferByte = [some 2, some 0, some 0, some 0] ∧
    (sendingAt .pwm p0Pwm).pending.bind (fun p => p.encoded.map fun e => e.nbytes) = some 256 := by decide +kernel

theorem test_transmitPwm_commits :
    let t := after (exec .transmitPwm (sendingAt .pwm p0Pwm))
    t.result = 0x00 ∧ t.drv = .idle ∧ t.pending = none ∧ t.lastGood.map (fun g => g.2.length) = some 256 := by
  decide +kernel

/-- V-PCM: ONE is FF FF 00 00, ZERO is FF 00 00 00. -/
theorem test_transmitPcm_encodes :
    (List.range 4).map (sendingAt .pcm p0Pcm).bufferByte = [some 0xFF, some 0xFF, some 0, some 0] ∧
    (sendingAt .pcm p0Pcm).bufferByte 33 = some 0 := by decide +kernel

theorem test_transmitPcm_fails :
    let t := after (exec .transmitPcm { sendingAt .pcm p0Pcm with writeAnswer := some (.fail 1000) })
    t.result = 0x04 ∧ t.errInfo = 256 ∧ t.drv = .idle := by decide +kernel

/-! ## The pure functions -/

/-- V-DEC. -/
theorem test_refDecode :
    refDecode (syms [0, 0, 0, 1, 0, 0, 1, 0]) .msb = some 0x12 ∧ refDecode (syms [0, 0, 0, 1, 0, 0, 1, 0]) .lsb = some 0x48 ∧
    refDecode (syms [1, 0, 1, 0, 0, 1, 0]) .msb = none ∧ refDecode (syms [1, 1, 1, 1, 1, 1, 1] ++ [.idle]) .msb = none := by
  decide

/-- V-SPI, B6: three bits a symbol, 5 padding bits from idle bit 0. -/
theorem test_spi_padding :
    bytesOf .spi { p0 with spiBps := 3, spiPatOne := 6, spiPatZero := 4 }
      (syms [1, 0, 1, 0, 0, 1, 0, 1] ++ List.replicate 24 .zero ++ [.idle]) =
    [0xD3, 0x49, 0xA6, 0x92, 0x49, 0x24, 0x92, 0x49, 0x24, 0x92, 0x49, 0x24, 0x00] := by decide +kernel

/-- V-SPI, B7: idle bit 1. -/
theorem test_spi_idle_high :
    bytesOf .spi { p0 with spiIdleBit := true } (List.replicate 32 .zero ++ [.idle]) =
      List.replicate 16 0x88 ++ [0xFF] := by decide +kernel

/-- W5: the byte counts of 300 and 301 pixels. -/
theorem test_frameBytes :
    [0, 1, 2, 255, 256, 300, 301].map (frameBytes .spi p0) = [16, 32, 48, 4096, 4112, 4816, 4832] ∧
    [31, 32].map (frameBytes .pwm p0Pwm) = [4096, 4224] ∧ [31, 32].map (frameBytes .pcm p0Pcm) = [4096, 4224] := by
  decide

/-- R97, R98: `t_encode` with the order left out is MSB, `reinit` is SHUTDOWN then INIT. -/
theorem test_assemble :
    assemble 1 [.tEncode 0xA5 none, .reinit, .phys (.fail 5), .claimed true] =
      some [.act 1 (.issue 0xA504), .act 1 (.issue 0x0003), .act 1 (.issue 0x0001), .act 1 (.answerWrite (.fail 5)),
        .act 1 (.answerClaim true)] := by decide

/-- R69: the byte-wide pixel port, and a frame with a pixel cut short. -/
theorem test_pixel_port :
    portBytes [⟨0x12, 0x34, 0x56, 0x78⟩, red] = [0x12, 0x34, 0x56, 0x78, 0xFF, 0x00, 0x00, 0x00] ∧
    stripOfPort [0x01, 0x02, 0x03, 0x04] = some [⟨1, 2, 3, 4⟩] ∧ stripOfPort [0x01, 0x02, 0x03] = none := by decide

/-! ## Blocked threads -/

/-- Program P4 (R72): the `.phys fail 5` that follows a RENDER waits with its thread while the write of that RENDER is
answered, so the first frame goes out whole. -/
theorem test_next_answer_waits_for_the_render :
    let t := after (step { sendingAt .spi p0 with agenda := [.act 0 (.answerWrite (.fail 5))] })
    t.agenda = [.act 0 (.answerWrite (.fail 5))] ∧ t.writeAnswer = none ∧ t.result = 0x00 ∧
    t.wire = [⟨.spi, bytesA, .ok⟩] := by decide +kernel

/-! ## Witnesses: states that meet the hypotheses of each statement -/

/-- P0 in IDLE with the symbols of T_ENCODE 0xA5 in TEST_REG. -/
def withSyms : State := { idle .spi p0 with testReg := .syms (syms [1, 0, 1, 0, 0, 1, 0, 1]) }

/-- A state with one command word of thread `t` next. -/
def issuing (s : State) (t : Nat) (w : Word16) : State := { s with agenda := [.act t (.issue w)] }

theorem witness_DecodeOfEncodeIsTheInstruction : (Instr.tEncode 0xFF .lsb).wellFormed = true ∧ encode (.tEncode 0xFF .lsb) = some 0xFF14 ∧
    (Instr.illegal 0xFFFF).wellFormed = true ∧ encode (.illegal 0xFFFF) = some 0xFFFF := by decide

theorem witness_IllegalWordsEndWithIllegalCommandOnly : Ready (off p0) ∧ Ready (idle .spi p0) ∧ (fieldsOf 0x0008).op.toNat = 8 ∧
    (fieldsOf 0x0047).op.toNat = 7 ∧ (fieldsOf 0x0047).rsv ≠ 0 := ⟨.inl rfl, .inr rfl, by decide⟩

/-- The states the commands' clauses speak of: OFF, IDLE, ENCODING and TRANSMITTING. -/
theorem witness_states : Ready (off p0) ∧ Ready (idle .spi p0) ∧ InFlight (encodingAt .spi p0) ∧
    InFlight (sendingAt .spi p0) := ⟨.inl rfl, .inr rfl, .inl rfl, .inr (by decide +kernel)⟩

theorem witness_TSerialize : (idle .spi p0).drv = .idle ∧ (idle .spi p0).cfg = some p0 ∧ perm p0.order = true := by decide

/-- TEST_REG with symbols, without, and with units. -/
theorem witness_TInvert : withSyms.drv = .idle ∧ withSyms.testReg = .syms (syms [1, 0, 1, 0, 0, 1, 0, 1]) ∧
    (∀ f, (idle .spi p0).testReg ≠ .syms f) ∧
    ∀ f, ({ idle .spi p0 with testReg := .units .spi [0xC8] } : State).testReg ≠ .syms f := ⟨rfl, rfl, nofun, nofun⟩

/-- T_MAP at the bound: 8 symbols are 4 bytes. -/
theorem witness_TMap :
    (let c := { p0 with capacity := 4 }
     Configured { withSyms with cfg := some c } c .spi ∧
       (bytesOf .spi c (syms [1, 0, 1, 0, 0, 1, 0, 1])).length = c.capacity.toNat) ∧
    (let c := { p0 with capacity := 3 }
     Configured { withSyms with cfg := some c } c .spi ∧
       c.capacity.toNat < (bytesOf .spi c (syms [1, 0, 1, 0, 0, 1, 0, 1])).length) :=
  ⟨⟨⟨rfl, rfl⟩, by decide⟩, ⟨rfl, rfl⟩, by decide⟩

theorem witness_InitFollowsItsRule_opens : [(Kind.spi, p0), (.pwm, p0Pwm), (.pcm, p0Pcm)].all (fun x =>
    decide ((off x.2).drv = .off ∧ checkConfig (off x.2).pinOk (off x.2).configPort = .legal x.1 ∧
      (off x.2).claimedElsewhere = false)) = true := by decide

theorem witness_InitFollowsItsRule_fails : checkConfig (off { p0 with trailIdle := 0 }).pinOk { p0 with trailIdle := 0 } = .bad .parameter 1 ∧
    checkConfig (off p0).pinOk p0 = .legal .spi ∧
    ({ off p0 with claimAnswer := some true } : State).claimedElsewhere = true := by decide

/-- RENDER at the length the configuration asks for, zero included, and at another. -/
theorem witness_RenderTakesTheStripOnThePort : (idle .spi p0).pixelPort.length = p0.ledCount.toNat ∧
    ([] : Strip).length = ({ p0 with ledCount := 0 } : ConfigRecord).ledCount.toNat ∧
    (idle .spi p0).pixelPort.length ≠ ({ p0 with ledCount := 2 } : ConfigRecord).ledCount.toNat := by decide

/-- The one-pixel frame at P0. -/
def frameA : Frame := List.replicate 8 .one ++ List.replicate 24 .zero ++ List.replicate 32 .idle

theorem witness_EncodingStageFollowsItsRule_frame :
    serialize [red] p0.order p0.bitOrder p0.leadIdle.toNat p0.trailIdle.toNat = some frameA ∧
    (bytesOf .spi p0 (applyInversion frameA false)).length = 32 ∧ (bytesOf .pwm p0Pwm frameA).length = 256 ∧
    (bytesOf .pcm p0Pcm frameA).length = 256 := by decide +kernel

/-- The Encoding stage one byte short, and at the bound, for each kind. -/
theorem witness_EncodingStageFollowsItsRule_bounds :
    [(Kind.spi, { p0 with capacity := 31 }), (.pwm, { p0Pwm with capacity := 255 }), (.pcm, { p0Pcm with capacity := 255 })].all
      (fun x => decide ((encodingAt x.1 x.2).drv = .encoding ∧ (encodingAt x.1 x.2).cfg = some x.2 ∧
        kindOfCode x.2.kind = some x.1 ∧ (encodingAt x.1 x.2).pending = some ⟨[red], none⟩ ∧
        x.2.capacity.toNat < (bytesOf x.1 x.2 (applyInversion frameA x.2.invert)).length)) = true ∧
    [(Kind.spi, { p0 with capacity := 32 }), (.pwm, { p0Pwm with capacity := 256 }), (.pcm, { p0Pcm with capacity := 256 })].all
      (fun x => decide ((encodingAt x.1 x.2).pending = some ⟨[red], none⟩ ∧
        (encodingAt x.1 x.2).txbuf = some ⟨x.2.capacity.toNat, []⟩ ∧
        (bytesOf x.1 x.2 (applyInversion frameA x.2.invert)).length = x.2.capacity.toNat)) = true := by decide +kernel

/-- What is pending when a frame is sent. -/
def encodedA (k : Kind) (c : ConfigRecord) : Encoded := ⟨frameA, bytesOf k c frameA, (bytesOf k c frameA).length⟩

theorem witness_TransmittingStageFollowsItsRule : [(Kind.spi, p0), (.pwm, p0Pwm), (.pcm, p0Pcm)].all (fun x =>
    decide ((sendingAt x.1 x.2).drv = .transmitting ∧ (sendingAt x.1 x.2).cfg = some x.2 ∧
      kindOfCode x.2.kind = some x.1 ∧ (sendingAt x.1 x.2).pending = some ⟨[red], some (encodedA x.1 x.2)⟩ ∧
      (sendingAt x.1 x.2).txbuf ≠ none ∧
      (List.range (encodedA x.1 x.2).nbytes).map (sendingAt x.1 x.2).bufferByte =
        (encodedA x.1 x.2).bytes.map some ∧
      (sendingAt x.1 x.2).writeAnswer.getD (Config.physOutcome (sendingAt x.1 x.2).draws) = .ok)) = true := by
  decide +kernel

/-- A failure at 0, at the number of units, and past it. -/
theorem witness_TransmittingStageFollowsItsRule_fails : [0, 32, 33].all (fun j =>
    decide (({ sendingAt .spi p0 with writeAnswer := some (.fail j) } : State).writeAnswer.getD .ok = .fail j)) = true ∧
    (encodedA .spi p0).bytes.length / unitWidth .spi p0 = 32 := by decide +kernel

/-- OFF with no configuration, IDLE, and a render of another kind in flight. -/
theorem witness_TransmitRowsRunOnlyAsStages : IsStage .spi .transmitSpi ∧ Ready (off p0) ∧ (off p0).cfg = none ∧
    Ready (idle .spi p0) ∧ IsStage .pwm .transmitPwm ∧
    (encodingAt .spi p0).cfg = some p0 ∧ kindOfCode p0.kind ≠ some .pwm :=
  ⟨by simp [IsStage], .inl rfl, rfl, .inr rfl, by simp [IsStage], rfl, by decide⟩

/-- Thread 1 is blocked in nothing while thread 0's render is in flight, and after it. -/
theorem witness_Free : Free (issuing (encodingAt .spi p0) 1 0x0001) 1 ∧ Free (issuing (off p0) 3 0x0001) 3 ∧
    ¬ Free (encodingAt .spi p0) 0 ∧ ¬ Free ({ off p0 with hung := [1] } : State) 1 :=
  ⟨⟨nofun, nofun⟩, ⟨nofun, nofun⟩, fun h => h.2 (.inl rfl) rfl, fun h => h.1 (.head _)⟩

theorem witness_AnyWordInFlight_BlockedThreads : InFlight (issuing (encodingAt .spi p0) 1 0x0001) ∧
    (issuing (encodingAt .spi p0) 1 0x0001).agenda = [.act 1 (.issue 0x0001)] ∧
    Configured (issuing (encodingAt .spi p0) 0 0x0001) p0 .spi ∧
    0 ∉ (issuing (encodingAt .spi p0) 0 0x0001).hung ∧
    (issuing (encodingAt .spi p0) 0 0x0001).renderThread = some 0 :=
  ⟨.inl rfl, rfl, ⟨rfl, rfl⟩, nofun, rfl⟩

/-- The stages of a blocked thread's render: one that goes on, one that overflows, one that ends. -/
theorem witness_BlockedThreads_until : [encodingAt .spi p0, encodingAt .spi { p0 with capacity := 31 }, sendingAt .spi p0].map
      (fun s => (s.renderThread, (after (exec .transmitSpi s)).renderThread,
        (after (exec .transmitSpi s)).completions)) =
    [(some 0, some 0, []), (some 0, none, [⟨0, 0x02, 32⟩]), (some 0, none, [⟨0, 0x00, 0⟩])] := by decide +kernel

theorem witness_StepRunsTheIssuedCommand : (issuing (off p0) 3 0x0001).agenda = [.act 3 (.issue 0x0001)] ∧
    Free (issuing (off p0) 3 0x0001) 3 := ⟨rfl, nofun, nofun⟩

theorem witness_StepRunsTheStageInFlight : IsStage .spi .transmitSpi ∧ InFlight (encodingAt .spi p0) ∧
    Configured (encodingAt .spi p0) p0 .spi ∧ (encodingAt .spi p0).agenda = [] ∧
    ({ encodingAt .spi p0 with agenda := [.driver] } : State).agenda = [.driver] :=
  ⟨by simp [IsStage], .inl rfl, ⟨rfl, rfl⟩, rfl, rfl⟩

theorem witness_TheBlockWaitsForACommand : Ready (off p0) ∧ (off p0).agenda = [] ∧
    ({ off p0 with agenda := [.driver] } : State).agenda = [.driver] := ⟨.inl rfl, rfl, rfl⟩

/-- A thread that is blocked for good and stands next. -/
theorem witness_BlockedThreads_dropped : (issuing { off p0 with hung := [1] } 1 0x0001).agenda = [.act 1 (.issue 0x0001)] ∧
    1 ∈ (issuing { off p0 with hung := [1] } 1 0x0001).hung := by decide

/-- Each of the host's reads, writes and loads, in flight as well. -/
theorem witness_StatusAndReads_HostLoads :
    [HostAct.read .status, .read .result, .read .errInfo, .read .testReg, .writeStatus 0xFFFF, .loadConfig p0,
      .loadStrip [red, red], .loadStripBytes (portBytes [red]), .loadStripBytes [0xFF], .answerClaim true,
      .answerWrite (.fail 3)].all (fun a =>
        isNext (step { withSyms with agenda := [.act 1 a] }) &&
        isNext (step { encodingAt .spi p0 with agenda := [.act 1 a] })) = true ∧
    Free withSyms 1 ∧ Free (encodingAt .spi p0) 1 ∧ (portBytes [red]).length % 4 = 0 ∧ [0xFF].length % 4 ≠ 0 :=
  ⟨by decide, ⟨nofun, nofun⟩, ⟨nofun, nofun⟩, by decide, by decide⟩

theorem witness_frames_commands :
    [Instr.nop, .illegal 0x0008, .tEncode 1 .msb, .tSerialize, .tInvert true, .tMap, .init, .render, .shutdown].all
      (fun i => isNext (exec i (off p0)) && isNext (exec i withSyms) && isNext (exec i (encodingAt .spi p0))) = true := by
  decide +kernel

/-- A frame that overflows, for the frame of the stages. -/
theorem witness_frames_overflow : (encodingAt .spi { p0 with capacity := 31 }).pending = some ⟨[red], none⟩ ∧
    renderFrame { p0 with capacity := 31 } [red] = some frameA ∧
    31 < (bytesOf .spi { p0 with capacity := 31 } frameA).length := by decide +kernel

theorem witness_frames_stages : [(Kind.spi, p0), (.pwm, p0Pwm), (.pcm, p0Pcm)].all (fun x =>
    isNext (exec (stageInstr x.1) (encodingAt x.1 x.2)) && isNext (exec (stageInstr x.1) (sendingAt x.1 x.2))) = true ∧
    (encodingAt .spi p0).cfg = some p0 ∧ renderFrame p0 [red] = some frameA := by decide +kernel

/-! ### States that meet the invariant -/

theorem off_consistent : Consistent (off p0) where
  off _ := by decide
  opened h := absurd rfl h
  resting _ := by decide
  encoding h := by cases h
  transmitting h := by cases h
  blocked _ h := by cases h
  mapped _ _ h := by cases h
  resultLegal := by decide
  shown := rfl

theorem idle_consistent : Consistent (idle .spi p0) where
  off h := by cases h
  opened _ := ⟨p0, .spi, ⟨4096, []⟩, rfl, by decide, rfl, rfl, rfl, rfl, by decide⟩
  resting _ := by decide
  encoding h := by cases h
  transmitting h := by cases h
  blocked _ h := by cases h
  mapped _ _ h := by cases h
  resultLegal := by decide
  shown := rfl

/-- P0 with a buffer one byte too small for its frame. -/
def small : ConfigRecord := { p0 with capacity := 31 }

theorem idle_small_consistent : Consistent (idle .spi small) where
  off h := by cases h
  opened _ := ⟨small, .spi, ⟨31, []⟩, rfl, by decide, rfl, rfl, rfl, rfl, by decide⟩
  resting _ := by decide
  encoding h := by cases h
  transmitting h := by cases h
  blocked _ h := by cases h
  mapped _ _ h := by cases h
  resultLegal := by decide
  shown := rfl

theorem encodingAt_consistent : Consistent (encodingAt .spi p0) where
  off h := by cases h
  opened _ := ⟨p0, .spi, ⟨4096, []⟩, rfl, by decide, rfl, rfl, rfl, rfl, by decide⟩
  resting h := by rcases h with h | h <;> cases h
  encoding _ := ⟨p0, [red], rfl, rfl, rfl, nofun⟩
  transmitting h := by cases h
  blocked _ _ := nofun
  mapped _ _ h := by cases h
  resultLegal := by decide
  shown := rfl

theorem sendingAt_drv : (sendingAt .spi p0).drv = .transmitting := by decide +kernel

theorem sendingAt_consistent : Consistent (sendingAt .spi p0) where
  off h := by rw [sendingAt_drv] at h; cases h
  opened _ := ⟨p0, .spi, (sendingAt .spi p0).txbuf.getD ⟨0, []⟩, by decide +kernel⟩
  resting h := by rcases h with h | h <;> (rw [sendingAt_drv] at h; cases h)
  encoding h := by rw [sendingAt_drv] at h; cases h
  transmitting _ := ⟨p0, .spi, [red], frameA, ⟨by decide +kernel, rfl⟩, by decide +kernel⟩
  blocked _ _ := by rw [show (sendingAt .spi p0).hung = [] by decide +kernel]; nofun
  mapped _ _ h := by rw [show (sendingAt .spi p0).testReg = .none by decide +kernel] at h; cases h
  resultLegal := by decide +kernel
  shown := by decide +kernel

/-- Premises of `EveryStepKeepsTheInvariant`, `TheMachineNeverStops` and the rules about steps: a step from each of the
four values of STATE. -/
theorem witness_steps : (Consistent (off p0) ∧ Consistent (idle .spi p0) ∧ Consistent (encodingAt .spi p0) ∧
      Consistent (sendingAt .spi p0)) ∧
    [issuing (off p0) 1 0x0001, issuing (idle .spi p0) 1 0x0002, encodingAt .spi p0, sendingAt .spi p0].all
      (fun s => isNext (step s)) = true :=
  ⟨⟨off_consistent, idle_consistent, encodingAt_consistent, sendingAt_consistent⟩, by decide +kernel⟩

/-- Each of the six moves of STATE (R25) is made by a step. -/
theorem witness_StateMoves :
    [(after (step (issuing (off p0) 1 0x0001))).drv, (after (step (issuing (idle .spi p0) 1 0x0002))).drv,
      (after (step (encodingAt .spi small))).drv, (after (step (encodingAt .spi p0))).drv,
      (after (step (sendingAt .spi p0))).drv, (after (step (issuing (idle .spi p0) 1 0x0003))).drv] =
    [.idle, .encoding, .idle, .transmitting, .idle, .off] := by decide +kernel

/-- Steps that change CFG, the sticky marks, LAST_GOOD, WIRE and TEST_REG. -/
theorem witness_changes :
    (after (step (issuing (off p0) 1 0x0001))).cfg ≠ (off p0).cfg ∧
    (after (step (issuing (idle .spi p0) 1 0x0003))).cfg ≠ (idle .spi p0).cfg ∧
    (after (step (issuing (encodingAt .spi p0) 1 0x0000))).faultConcurrent = true ∧
    (after (step (issuing (idle .spi { p0 with ledCount := 2 }) 1 0x0002))).refused = true ∧
    (after (step (sendingAt .spi p0))).lastGood = some ([red], bytesA) ∧
    (after (step (sendingAt .spi p0))).wire = [⟨.spi, bytesA, .ok⟩] ∧
    (after (step (issuing (idle .spi p0) 1 0xA504))).testReg ≠ (idle .spi p0).testReg ∧
    (after (step (issuing withSyms 1 0x0007))).testReg ≠ withSyms.testReg ∧
    (after (step (issuing withSyms 1 0x0003))).testReg ≠ withSyms.testReg := by decide +kernel

/-- Two machines that agree on what R215 names and differ elsewhere. -/
theorem witness_RenderDependsOnlyOnConfigStripAndAnswer :
    let s := idle .spi p0
    let u : State := { withSyms with faultConcurrent := true, draws := 9, lastGood := some ([], []), result := 0x06 }
    s.cfg = u.cfg ∧ s.pixelPort = u.pixelPort ∧ s.writeAnswer = u.writeAnswer ∧
    isNext (exec .render s) = true ∧ isNext (exec .render u) = true ∧ (after (exec .render s)).drv = .encoding ∧
    isNext (exec .transmitSpi (after (exec .render u))) = true ∧
    (after (exec .transmitSpi (after (exec .render u)))).drv = .transmitting ∧
    isNext (exec .transmitSpi (after (exec .transmitSpi (after (exec .render u))))) = true := by decide +kernel

/-- The warning off and on, with the render that follows. -/
theorem witness_CapacityWarningPredictsTheOverflow : Consistent (idle .spi p0) ∧ Consistent (idle .spi small) ∧
    [p0, small].all (fun c => decide ((encodingAt .spi c).drv = .encoding) && isNext (exec .transmitSpi (encodingAt .spi c))) =
      true ∧ (idle .spi p0).warnCap = false ∧ (idle .spi small).warnCap = true :=
  ⟨idle_consistent, idle_small_consistent, by decide +kernel⟩

/-- The test path on the strip of the port, inverted. -/
theorem witness_TestCommandsReproduceTheRenderedBytes :
    let c := { p0 with invert := true }
    let s := idle .spi c
    let a := after (exec .tSerialize s)
    let b := after (exec (.tInvert c.invert) a)
    let d := after (exec .tMap b)
    s.cfg = some c ∧ kindOfCode c.kind = some .spi ∧ isNext (exec .tSerialize s) = true ∧ a.result = 0x00 ∧
    isNext (exec (.tInvert c.invert) a) = true ∧ isNext (exec .tMap b) = true ∧ d.result = 0x00 ∧
    isNext (exec .render s) = true ∧ isNext (exec .transmitSpi (encodingAt .spi c)) = true ∧
    (sendingAt .spi c).drv = .transmitting := by decide +kernel

/-! ### The pure functions -/

theorem witness_refDecode : (syms [1, 0, 1, 0, 0, 1, 0, 1]).length = 8 ∧ FrameSym.idle ∉ syms [1, 0, 1, 0, 0, 1, 0, 1] ∧
    (syms [1]).length ≠ 8 ∧ FrameSym.idle ∈ List.replicate 8 FrameSym.idle := by decide

theorem witness_serialize : (orderChannels 0xE4).Nodup ∧ (orderChannels 0x1B).Nodup ∧ ¬ (orderChannels 0xE0).Nodup ∧
    perm 0xE4 = true ∧ perm 0xE1 = true ∧ serialize [red] 0xE4 .msb 2 1 ≠ none := by decide

theorem witness_SerializeNeverFailsInTheBlock : Consistent (encodingAt .spi p0) ∧ (encodingAt .spi p0).cfg = some p0 :=
  ⟨encodingAt_consistent, rfl⟩

theorem witness_ByteCounts : (1 : Nat) ≤ 8 ∧ p0Pcm.pcmSps.toNat ≤ 16 ∧ ({ p0Pcm with pcmSps := 16 } : ConfigRecord).pcmSps.toNat ≤ 16 ∧
    serializeCfg p0Pcm [red] = some frameA := by decide

/-- A ONE and an IDLE in a frame; PWM words of 4 bytes; PCM_SPS 16, the bound, with samples of 1 byte. -/
theorem witness_PwmAndPcmUnitsAreLaidOutLittleEndian : frameA[0]? = some .one ∧ frameA[63]? = some .idle ∧
    (3 : Nat) < p0Pwm.pwmWordBytes.toNat ∧ ({ p0Pcm with pcmSps := 16 } : ConfigRecord).pcmSps.toNat ≤ 16 ∧
    (15 : Nat) < ({ p0Pcm with pcmSps := 16 } : ConfigRecord).pcmSps.toNat ∧ (0 : Nat) < p0Pcm.pcmSampleBytes.toNat := by
  decide

theorem witness_SpiCapacityBoundary : p0.spiBps = 4 ∧ p0.leadIdle = 0 ∧ p0.trailIdle = 32 := by decide

theorem witness_BytesOnTheLineDetermineTheStrip : [(Kind.spi, p0), (.pwm, p0Pwm), (.pcm, p0Pcm)].all (fun x =>
    decide (checkConfig (fun _ _ => true) x.2 = .legal x.1 ∧ renderFrame x.2 [red] = some frameA)) = true := by
  decide +kernel

/-- A unit at the end of the buffer, and one that does not fit. -/
theorem witness_UnitsAreStoredLittleEndian : (0x12345678 : Nat) < 2 ^ (8 * 4) ∧ 4 + 4 ≤ (Memory.mk 8 []).size ∧
    (Memory.mk 8 []).size < 5 + 4 ∧
    ((Memory.mk 8 []).memWrite 4 4 0x12345678).map (fun m => m.cells) =
      some [(4, 0x78), (5, 0x56), (6, 0x34), (7, 0x12)] ∧
    ((Memory.mk 8 []).fill 0 (bytesOf .pwm p0Pwm [.zero, .one])).bind (fun m => m.memRead 4 4) = some 2 ∧
    ((Memory.mk 8 []).fill 0 (bytesOf .pcm p0Pcm [.zero, .one])).bind (fun m => m.memRead 5 1) = some 0xFF := by decide

end Sys2Proof.Tests
end

section
/-! PROOFS. What the next turn can be, and what a step does with the draw counter and the loaded answers (R8, R20,
R180, R206). -/

namespace Sys2Proof.Machine

theorem inFlight_iff_busy {s : State} : Safety.InFlight s ↔ s.busy = true := busy_eq_true.symm

theorem ready_iff_not_busy {s : State} : Safety.Ready s ↔ s.busy = false := busy_eq_false.symm

/-! ## The next turn -/

/-- Everything a turn that runs an instruction can be: the stage of the render in flight, or a word that a free thread
issues. -/
theorem nextTurn_run {s u : State} {i : Instr} (h : nextTurn s = .run i u) :
    ((u = s ∨ u = s.popAgenda) ∧ s.busy = true ∧ ∃ k, cfgKind s.cfg = some k ∧ i = stageInstr k) ∨
    (∃ th w rest, s.agenda = .act th (.issue w) :: rest ∧ th ∉ s.hung ∧ s.waits th = false ∧
      i = decode w ∧ u = s.acceptFrom th) := by
  unfold nextTurn at h
  split at h
  next =>
    obtain ⟨hu, hb, hk⟩ := driverTurn_run h
    exact .inl ⟨.inl hu, hb, hk⟩
  next th a rest hag =>
    by_cases hh : th ∈ s.hung
    · simp [threadTurn_hung hh] at h
    · cases hw : s.waits th with
      | true =>
        obtain ⟨hu, hb, hk⟩ := driverTurn_run (threadTurn_waits hh hw ▸ h)
        exact .inl ⟨.inl hu, hb, hk⟩
      | false =>
        rw [threadTurn_free hh hw] at h
        cases a <;> cases h
        exact .inr ⟨th, _, rest, hag, hh, hw, rfl, rfl⟩
  next =>
    obtain ⟨hu, hb, hk⟩ := driverTurn_run h
    exact .inl ⟨.inr hu, hb, hk⟩

/-- Everything a turn that runs nothing can be: the block waits, an event is dropped or a driver event passes, or a free
thread acts. -/
theorem nextTurn_host {s t : State} (h : nextTurn s = .host t) :
    ((t = s ∨ t = s.popAgenda) ∧ s.busy = false) ∨
    (∃ th a rest, s.agenda = .act th a :: rest ∧
      ((th ∈ s.hung ∧ t = s.popAgenda) ∨
       (th ∉ s.hung ∧ s.waits th = false ∧ actTurn s th a = .host t))) := by
  unfold nextTurn at h
  split at h
  next =>
    obtain ⟨ht, hb⟩ := driverTurn_host h
    exact .inl ⟨.inl ht, hb⟩
  next th a rest hag =>
    by_cases hh : th ∈ s.hung
    · rw [threadTurn_hung hh] at h
      cases h
      exact .inr ⟨th, a, rest, hag, .inl ⟨hh, rfl⟩⟩
    · cases hw : s.waits th with
      | true =>
        obtain ⟨ht, hb⟩ := driverTurn_host (threadTurn_waits hh hw ▸ h)
        exact .inl ⟨.inl ht, hb⟩
      | false => exact .inr ⟨th, a, rest, hag, .inr ⟨hh, hw, threadTurn_free hh hw ▸ h⟩⟩
  next =>
    obtain ⟨ht, hb⟩ := driverTurn_host h
    exact .inl ⟨.inr ht, hb⟩

/-! ## The physical write and what follows it -/

@[simp] theorem afterAnswer_drv (s : State) (p : Strip) (b : List Byte) (a : PhysAnswer) :
    (afterAnswer s p b a).drv = .idle := by cases a <;> rfl
@[simp] theorem afterAnswer_draws (s : State) (p : Strip) (b : List Byte) (a : PhysAnswer) :
    (afterAnswer s p b a).draws = s.draws := by cases a <;> rfl
@[simp] theorem afterAnswer_claimAnswer (s : State) (p : Strip) (b : List Byte) (a : PhysAnswer) :
    (afterAnswer s p b a).claimAnswer = s.claimAnswer := by cases a <;> rfl
@[simp] theorem afterAnswer_writeAnswer (s : State) (p : Strip) (b : List Byte) (a : PhysAnswer) :
    (afterAnswer s p b a).writeAnswer = s.writeAnswer := by cases a <;> rfl

/-! ## The draws -/

/-- No draw is taken and no loaded answer changes. -/
def DrawsKept (s t : State) : Prop :=
  t.draws = s.draws ∧ t.claimAnswer = s.claimAnswer ∧ t.writeAnswer = s.writeAnswer

/-- The draw of an INIT is taken (log entries 2 and 4). -/
def ClaimDrawn (s t : State) : Prop :=
  t.draws = s.draws + 1 ∧ t.claimAnswer = none ∧ t.writeAnswer = s.writeAnswer

/-- The draw of a physical write is taken (log entries 3 and 4). -/
def WriteDrawn (s t : State) : Prop :=
  t.draws = s.draws + 1 ∧ t.writeAnswer = none ∧ t.claimAnswer = s.claimAnswer

/-- The physical write of the Transmitting stage takes one draw, and the render ends (R180, R212). -/
theorem sendFrame_writeDrawn (k : Kind) (c : ConfigRecord) (s : State) (p : Strip) (e : Encoded) (b : List Byte) :
    WriteDrawn s (sendFrame k c s p e b) ∧ (sendFrame k c s p e b).drv = .idle := by
  simp [WriteDrawn, sendFrame, State.physWrite]

/-- An INIT that is executed takes its draw, whatever it answers; the concurrency fault takes none. -/
theorem execInit_draws {s t : State} (h : execInit s = .next t) :
    (s.busy = true ∧ DrawsKept s t) ∨ (s.busy = false ∧ ClaimDrawn s t) := by
  obtain ⟨hb, rfl⟩ | ⟨hd, rfl⟩ | ⟨hd, _, _, _, rfl⟩ | ⟨hd, _, _, _, rfl⟩ | ⟨hd, _, _, _, rfl⟩ := execInit_next h
  · exact .inl ⟨hb, rfl, rfl, rfl⟩
  · exact .inr ⟨busy_eq_false.2 (.inr hd), rfl, rfl, rfl⟩
  all_goals exact .inr ⟨busy_eq_false.2 (.inl hd), rfl, rfl, rfl⟩

/-- The Encoding stage takes no draw; the Transmitting stage takes the draw of its physical write. -/
theorem transmitStage_draws {k : Kind} {s t : State} (h : transmitStage k s = .next t) :
    DrawsKept s t ∨ (s.drv = .transmitting ∧ t.drv = .idle ∧ WriteDrawn s t) := by
  obtain ⟨c, _, _, ⟨_, he⟩ | ⟨hd, ht⟩⟩ := transmitStage_next h
  · left
    obtain ⟨p, _, ⟨_, rfl⟩ | ⟨f, _, ⟨_, rfl⟩ | ⟨_, m, m', _, _, rfl⟩⟩⟩ := encodingStage_next he
    all_goals exact ⟨rfl, rfl, rfl⟩
  · right
    obtain ⟨p, e, b, _, _, _, rfl⟩ := transmittingStage_next ht
    obtain ⟨hw, hi⟩ := sendFrame_writeDrawn k c s p.strip e b
    exact ⟨hd, hi, hw⟩

/-- What an instruction does with the draws: only an INIT in OFF or IDLE and the Transmitting stage take one. -/
theorem exec_draws {i : Instr} {s t : State} (h : exec i s = .next t) :
    (DrawsKept s t ∧ (i = .init → s.busy = true)) ∨
    (i = .init ∧ s.busy = false ∧ ClaimDrawn s t) ∨
    (s.drv = .transmitting ∧ t.drv = .idle ∧ WriteDrawn s t) := by
  have kept (hi : i ≠ .init) (hk : DrawsKept s t) : DrawsKept s t ∧ (i = .init → s.busy = true) :=
    ⟨hk, fun e => absurd e hi⟩
  cases i with
  | init =>
    obtain ⟨hb, hk⟩ | ⟨hb, hc⟩ := execInit_draws h
    · exact .inl ⟨hk, fun _ => hb⟩
    · exact .inr (.inl ⟨rfl, hb, hc⟩)
  | transmitSpi | transmitPwm | transmitPcm =>
    obtain hk | hw := transmitStage_draws h
    · exact .inl (kept nofun hk)
    · exact .inr (.inr hw)
  | nop =>
    obtain ⟨_, rfl⟩ | ⟨_, rfl⟩ := execNop_next h
    all_goals exact .inl (kept nofun ⟨rfl, rfl, rfl⟩)
  | illegal w =>
    obtain ⟨_, rfl⟩ | ⟨_, rfl⟩ := execIllegal_next h
    all_goals exact .inl (kept nofun ⟨rfl, rfl, rfl⟩)
  | render =>
    obtain ⟨_, rfl⟩ | ⟨_, rfl⟩ | ⟨_, _, _, _, rfl⟩ | ⟨_, _, _, _, rfl⟩ := execRender_next h
    all_goals exact .inl (kept nofun ⟨rfl, rfl, rfl⟩)
  | shutdown =>
    obtain ⟨_, rfl⟩ | ⟨_, rfl⟩ | ⟨_, rfl⟩ := execShutdown_next h
    all_goals exact .inl (kept nofun ⟨rfl, rfl, rfl⟩)
  | tEncode v bo =>
    obtain ⟨_, rfl⟩ | ⟨_, rfl⟩ | ⟨_, rfl⟩ := execTEncode_next h
    all_goals exact .inl (kept nofun ⟨rfl, rfl, rfl⟩)
  | tSerialize =>
    obtain ⟨_, rfl⟩ | ⟨_, rfl⟩ | ⟨_, _, _, ⟨_, rfl⟩ | ⟨_, _, rfl⟩⟩ := execTSerialize_next h
    all_goals exact .inl (kept nofun ⟨rfl, rfl, rfl⟩)
  | tInvert inv =>
    obtain ⟨_, rfl⟩ | ⟨_, rfl⟩ | ⟨_, _, _, rfl⟩ := execTInvert_next h
    all_goals exact .inl (kept nofun ⟨rfl, rfl, rfl⟩)
  | tMap =>
    obtain ⟨_, rfl⟩ | ⟨_, rfl⟩ | ⟨_, _, _, _, _, _, _, ⟨_, rfl⟩ | ⟨_, rfl⟩⟩ := execTMap_next h
    all_goals exact .inl (kept nofun ⟨rfl, rfl, rfl⟩)

/-- Choosing the instruction to run leaves STATE and the draws as they are. -/
theorem nextTurn_run_keeps {s u : State} {i : Instr} (h : nextTurn s = .run i u) : u.drv = s.drv ∧ DrawsKept s u := by
  obtain ⟨rfl | rfl, _⟩ | ⟨th, _, _, _, _, _, _, rfl⟩ := nextTurn_run h
  all_goals exact ⟨rfl, rfl, rfl, rfl⟩

/-- A host act takes no draw, and changes a loaded answer only by loading it. -/
theorem actTurn_host_draws {s t : State} {th : Nat} {a : HostAct} (h : actTurn s th a = .host t) :
    t.draws = s.draws ∧
    (t.claimAnswer = s.claimAnswer ∨ ∃ b, a = .answerClaim b ∧ t.claimAnswer = some b) ∧
    (t.writeAnswer = s.writeAnswer ∨ ∃ w, a = .answerWrite w ∧ t.writeAnswer = some w) := by
  cases a with
  | issue w => cases h
  | answerClaim b => cases h; exact ⟨rfl, .inr ⟨b, rfl, rfl⟩, .inl rfl⟩
  | answerWrite w => cases h; exact ⟨rfl, .inl rfl, .inr ⟨w, rfl, rfl⟩⟩
  | loadConfig | loadStrip | loadStripBytes | read | writeStatus => cases h; exact ⟨rfl, .inl rfl, .inl rfl⟩

/-- A turn that runs nothing takes no draw, and changes a loaded answer only by the load its event says. -/
theorem nextTurn_host_draws {s t : State} (h : nextTurn s = .host t) :
    t.draws = s.draws ∧
    (t.claimAnswer = s.claimAnswer ∨
      ∃ th b rest, s.agenda = .act th (.answerClaim b) :: rest ∧ t.claimAnswer = some b) ∧
    (t.writeAnswer = s.writeAnswer ∨
      ∃ th a rest, s.agenda = .act th (.answerWrite a) :: rest ∧ t.writeAnswer = some a) := by
  obtain ⟨rfl | rfl, _⟩ | ⟨th, a, rest, hag, ⟨_, rfl⟩ | ⟨_, _, ha⟩⟩ := nextTurn_host h
  case inr.inr =>
    obtain ⟨hd, hc, hw⟩ := actTurn_host_draws ha
    refine ⟨hd, hc.imp_right ?_, hw.imp_right ?_⟩
    · rintro ⟨b, rfl, hb⟩
      exact ⟨th, b, rest, hag, hb⟩
    · rintro ⟨w, rfl, hb⟩
      exact ⟨th, w, rest, hag, hb⟩
  all_goals exact ⟨rfl, .inl rfl, .inl rfl⟩

/-- Settles O40: a step runs an instruction, which draws as `exec_draws` says, or takes a host event, which draws
nothing. -/
theorem eachAnswerIsUsedOnce : Obligations.EachAnswerIsUsedOnce := by
  intro s t h
  obtain ⟨i, u, hn, he⟩ | hn := step_next h
  · obtain ⟨hdrv, hd, hc, hw⟩ := nextTurn_run_keeps hn
    have hbusy : u.busy = s.busy := by simp [State.busy, hdrv]
    obtain ⟨⟨htd, htc, htw⟩, hi⟩ | ⟨rfl, hb, htd, htc, htw⟩ | ⟨htr, hid, htd, htw, htc⟩ := exec_draws he
    · refine .inl ⟨htd.trans hd, fun v hv => ?_, .inl (htc.trans hc), .inl (htw.trans hw)⟩
      obtain ⟨rfl, rfl⟩ : i = .init ∧ u = v := by simpa [hn] using hv
      exact inFlight_iff_busy.2 (hbusy ▸ hi rfl)
    · exact .inr ⟨by omega, .inl ⟨ready_iff_not_busy.2 (hbusy ▸ hb), ⟨u, hn⟩, htc, htw.trans hw⟩⟩
    · exact .inr ⟨by omega, .inr ⟨hdrv ▸ htr, hid, htw, htc.trans hc⟩⟩
  · obtain ⟨hd, hc, hw⟩ := nextTurn_host_draws hn
    exact .inl ⟨hd, fun u hu => by simp [hn] at hu, hc, hw⟩

end Sys2Proof.Machine
end

section
/-! PROOFS. The byte counts of the transport mappings (R10, R162-R170). -/

namespace Sys2Proof.Machine

/-- ceil_div is the least quotient (R10). -/
theorem ceilDiv_le_iff {a b q : Nat} (hb : 1 ≤ b) : ceilDiv a b ≤ q ↔ a ≤ q * b := by
  unfold ceilDiv
  rw [Nat.div_le_iff_le_mul_add_pred hb, Nat.mul_comm]
  omega

@[simp] theorem length_spiPat (c : ConfigRecord) (x : FrameSym) : (spiPat c x).length = c.spiBps.toNat := by
  cases x <;> simp [spiPat, patBits]

@[simp] theorem length_spiBits (c : ConfigRecord) (s : Frame) :
    (spiBits c s).length = s.length * c.spiBps.toNat := by
  simp [spiBits, List.length_flatMap]

/-- Packing makes one byte of every eight bits (R164). -/
@[simp] theorem length_packBits : ∀ bits : List Bool, (packBits bits).length = bits.length / 8
  | _ :: _ :: _ :: _ :: _ :: _ :: _ :: _ :: rest => by
    simp only [packBits, List.length_cons, length_packBits rest]
    omega
  | [] | [_] | [_, _] | [_, _, _] | [_, _, _, _] | [_, _, _, _, _] | [_, _, _, _, _, _] | [_, _, _, _, _, _, _] => by
    simp [packBits]

/-- Padding rounds the bit stream up to whole bytes (R163). -/
theorem length_spiPadded_div (c : ConfigRecord) (s : Frame) :
    (spiPadded c s).length / 8 = ceilDiv (spiBits c s).length 8 := by
  simp only [spiPadded, spiPad, ceilDiv, List.length_append, List.length_replicate]
  omega

@[simp] theorem length_pcmSeq {c : ConfigRecord} (h : c.pcmSps.toNat ≤ 16) (x : FrameSym) :
    (pcmSeq c x).length = c.pcmSps.toNat := by
  cases x <;> simp [pcmSeq, seqOf, h]

@[simp] theorem length_unitBytes (w : Nat) (units : List Word32) :
    (unitBytes w units).length = units.length * w := by
  simp [unitBytes, List.length_flatMap]

/-- R165: an SPI frame is its bits rounded up to whole bytes. -/
theorem length_bytesOf_spi (c : ConfigRecord) (s : Frame) :
    (bytesOf .spi c s).length = ceilDiv (s.length * c.spiBps.toNat) 8 := by
  simp [bytesOf, length_spiPadded_div]

/-- R167: a PWM frame is one word for each symbol. -/
theorem length_bytesOf_pwm (c : ConfigRecord) (s : Frame) :
    (bytesOf .pwm c s).length = s.length * c.pwmWordBytes.toNat := by
  simp [bytesOf, unitWidth]

/-- R169: a PCM frame is PCM_SPS samples for each symbol, where the sequence fields hold that many. -/
theorem length_bytesOf_pcm {c : ConfigRecord} (h : c.pcmSps.toNat ≤ 16) (s : Frame) :
    (bytesOf .pcm c s).length = s.length * c.pcmSps.toNat * c.pcmSampleBytes.toNat := by
  simp [bytesOf, unitWidth, List.length_flatMap, h]

/-- Settles O53: `ceilDiv_le_iff` and the byte count of each transport. -/
theorem byteCountsOfTheTransports : Obligations.ByteCountsOfTheTransports :=
  ⟨fun _ _ _ hb => ceilDiv_le_iff hb,
    fun c s => ⟨length_bytesOf_spi c s, length_bytesOf_pwm c s, fun h => length_bytesOf_pcm h s⟩⟩

end Sys2Proof.Machine
end

section
/-! PROOFS. What a step can be, said once: one case for each way a command can end, each way a stage of a render can end,
and the host events. -/

namespace Sys2Proof.Machine

/-! ## Commands -/

/-- A decoded word is never a TRANSMIT row (R86). -/
theorem decode_ne_stageInstr (w : Word16) (k : Kind) : decode w ≠ stageInstr k := by
  unfold decode
  split_ifs <;> cases k <;> nofun

/-- What a command that a word selects can do (R201, R203, R205, R206, R210, R220, R226, R230). -/
inductive CommandEffect (i : Instr) (s : State) : State → Prop where
  /-- A render is in flight: the command is not executed. -/
  | concurrent (hb : s.busy = true) : CommandEffect i s s.markConcurrent
  /-- The command completes with no move of STATE; of RENDER that is only ILLEGAL_STATE in OFF. -/
  | completes (v : TestReg) (a : Option Bool) (d : Nat) (r : CmdResult) (info : Word32) (hb : s.busy = false)
      (hr : i = .render → s.drv = .off) :
      CommandEffect i s (State.complete { s with testReg := v, claimAnswer := a, draws := d } s.issuer r info)
  /-- An INIT opens the driver. -/
  | opens (k : Kind) (hi : i = .init) (hd : s.drv = .off) (hv : checkConfig s.pinOk s.configPort = .legal k) :
      CommandEffect i s (s.afterClaim.openDriver k s.configPort (capacityWarning k s.configPort)).completeOk
  /-- A RENDER starts. -/
  | starts (c : ConfigRecord) (hi : i = .render) (hd : s.drv = .idle) (hc : s.cfg = some c)
      (hl : s.pixelPort.length = c.ledCount.toNat) : CommandEffect i s (s.startRender s.pixelPort)
  /-- A RENDER of a strip of another length is refused. -/
  | refuses (c : ConfigRecord) (hi : i = .render) (hd : s.drv = .idle) (hc : s.cfg = some c)
      (hl : s.pixelPort.length ≠ c.ledCount.toNat) : CommandEffect i s s.markRefused
  /-- A SHUTDOWN closes the driver. -/
  | closes (hi : i = .shutdown) (hd : s.drv = .idle) : CommandEffect i s s.closeDriver.completeOk

/-- The command ends with a result and nothing else written. -/
theorem CommandEffect.ends {i : Instr} {s : State} (r : CmdResult) (info : Word32) (hb : s.busy = false)
    (hr : i = .render → s.drv = .off) : CommandEffect i s (s.complete s.issuer r info) :=
  .completes s.testReg s.claimAnswer s.draws r info hb hr

/-- A test-mode command ends OK in IDLE. -/
theorem CommandEffect.finishes {i : Instr} {s : State} (v : TestReg) (hd : s.drv = .idle) (hr : i ≠ .render) :
    CommandEffect i s (s.finishTest v) :=
  .completes v s.claimAnswer s.draws .ok 0 (busy_eq_false.2 (.inr hd)) fun h => absurd h hr

/-- An INIT that opens nothing ends with a result, its draw taken. -/
theorem CommandEffect.initEnds {s : State} (r : CmdResult) (info : Word32) (hb : s.busy = false) :
    CommandEffect .init s (s.afterClaim.complete s.issuer r info) :=
  .completes s.testReg none (s.draws + 1) r info hb nofun

/-- Everything an instruction that is no TRANSMIT row can do. -/
theorem exec_commandEffect {i : Instr} {s t : State} (hi : ∀ k, i ≠ stageInstr k) (h : exec i s = .next t) :
    CommandEffect i s t := by
  have off (hd : s.drv = .off) : s.busy = false := busy_eq_false.2 (.inl hd)
  have idle (hd : s.drv = .idle) : s.busy = false := busy_eq_false.2 (.inr hd)
  cases i with
  | transmitSpi => exact absurd rfl (hi .spi)
  | transmitPwm => exact absurd rfl (hi .pwm)
  | transmitPcm => exact absurd rfl (hi .pcm)
  | nop =>
    obtain ⟨hb, rfl⟩ | ⟨hb, rfl⟩ := execNop_next h
    · exact .concurrent hb
    · exact .ends .ok 0 hb nofun
  | illegal w =>
    obtain ⟨hb, rfl⟩ | ⟨hb, rfl⟩ := execIllegal_next h
    · exact .concurrent hb
    · exact .ends _ _ hb nofun
  | init =>
    obtain ⟨hb, rfl⟩ | ⟨hd, rfl⟩ | ⟨hd, _, _, _, rfl⟩ | ⟨hd, _, _, _, rfl⟩ | ⟨hd, k, hv, _, rfl⟩ := execInit_next h
    · exact .concurrent hb
    · exact .initEnds _ _ (idle hd)
    · exact .initEnds _ _ (off hd)
    · exact .initEnds _ _ (off hd)
    · exact .opens k rfl hd hv
  | render =>
    obtain ⟨hb, rfl⟩ | ⟨hd, rfl⟩ | ⟨hd, c, hc, hl, rfl⟩ | ⟨hd, c, hc, hl, rfl⟩ := execRender_next h
    · exact .concurrent hb
    · exact .ends _ _ (off hd) fun _ => hd
    · exact .starts c rfl hd hc hl
    · exact .refuses c rfl hd hc hl
  | shutdown =>
    obtain ⟨hb, rfl⟩ | ⟨hd, rfl⟩ | ⟨hd, rfl⟩ := execShutdown_next h
    · exact .concurrent hb
    · exact .ends .ok 0 (off hd) nofun
    · exact .closes rfl hd
  | tEncode v bo =>
    obtain ⟨hb, rfl⟩ | ⟨hd, rfl⟩ | ⟨hd, rfl⟩ := execTEncode_next h
    · exact .concurrent hb
    · exact .ends _ _ (off hd) nofun
    · exact .finishes _ hd nofun
  | tSerialize =>
    obtain ⟨hb, rfl⟩ | ⟨hd, rfl⟩ | ⟨hd, _, _, ⟨_, rfl⟩ | ⟨_, _, rfl⟩⟩ := execTSerialize_next h
    · exact .concurrent hb
    · exact .ends _ _ (off hd) nofun
    · exact .ends _ _ (idle hd) nofun
    · exact .finishes _ hd nofun
  | tInvert inv =>
    obtain ⟨hb, rfl⟩ | ⟨hd | ⟨hd, _⟩, rfl⟩ | ⟨hd, _, _, rfl⟩ := execTInvert_next h
    · exact .concurrent hb
    · exact .ends _ _ (off hd) nofun
    · exact .ends _ _ (idle hd) nofun
    · exact .finishes _ hd nofun
  | tMap =>
    obtain ⟨hb, rfl⟩ | ⟨hd | ⟨hd, _⟩, rfl⟩ | ⟨hd, _, _, _, _, _, _, ⟨_, rfl⟩ | ⟨_, rfl⟩⟩ := execTMap_next h
    · exact .concurrent hb
    · exact .ends _ _ (off hd) nofun
    · exact .ends _ _ (idle hd) nofun
    · exact .ends _ _ (idle hd) nofun
    · exact .finishes _ hd nofun

/-! ## Stages -/

/-- What a stage of a render over kind `k` can do (R211, R212). -/
inductive StageEffect (k : Kind) (s : State) : State → Prop where
  /-- serialize rejects the channel order (R134; log entry 11). -/
  | rejects (c : ConfigRecord) (p : Pending) (hd : s.drv = .encoding) (hc : s.cfg = some c)
      (hf : renderFrame c p.strip = none) : StageEffect k s (s.endRender (.configurationError .channelOrder) 0)
  /-- The frame does not fit. -/
  | overflows (info : Word32) (hd : s.drv = .encoding) : StageEffect k s (s.endRender .bufferOverflow info)
  /-- The frame fits and is stored. -/
  | fills (c : ConfigRecord) (p : Pending) (e : Encoded) (m : Memory) (hd : s.drv = .encoding) (hc : s.cfg = some c)
      (hl : e.bytes.length ≤ c.capacity.toNat) : StageEffect k s (s.startTransmit p e m)
  /-- The whole frame was sent and is committed. -/
  | commits (c : ConfigRecord) (p : Pending) (e : Encoded) (b : List Byte) (hd : s.drv = .transmitting)
      (hp : s.pending = some p) (he : p.encoded = some e) (hr : readFrame s e = .ok b) :
      StageEffect k s (((s.afterWrite.logWrite k (unitWidth k c) b .ok).commit p.strip e.bytes).endRender .ok 0)
  /-- The write failed after `n` units. -/
  | fails (c : ConfigRecord) (b : List Byte) (n : Nat) (hd : s.drv = .transmitting) :
      StageEffect k s
        ((s.afterWrite.logWrite k (unitWidth k c) b (.fail n)).endRender .transportError (BitVec.ofNat 32 n))

/-- A frame that passes the capacity check fits the buffer (R176). -/
theorem overflows_eq_false {c : ConfigRecord} {b : List Byte} :
    overflows c b = false ↔ b.length ≤ c.capacity.toNat := by
  simp [overflows]

/-- Everything a TRANSMIT row can do when it answers a next state. -/
theorem transmitStage_stageEffect {k : Kind} {s t : State} (h : transmitStage k s = .next t) : StageEffect k s t := by
  obtain ⟨c, hc, _, ⟨hd, h⟩ | ⟨hd, h⟩⟩ := transmitStage_next h
  · obtain ⟨p, _, ⟨hf, rfl⟩ | ⟨f, _, ⟨_, rfl⟩ | ⟨ho, _, m, _, _, rfl⟩⟩⟩ := encodingStage_next h
    · exact .rejects c p hd hc hf
    · exact .overflows _ hd
    · exact .fills c p _ m hd hc (overflows_eq_false.1 ho)
  · obtain ⟨p, e, b, hp, he, hr, rfl⟩ := transmittingStage_next h
    simp only [sendFrame, State.physWrite]
    cases s.physOutcome (b.length / unitWidth k c) with
    | ok => exact .commits c p e b hd hp he hr
    | fail n => exact .fails c b n hd

/-- The row of a kind is that kind's stage (R86). -/
theorem exec_stageInstr (k : Kind) (s : State) : exec (stageInstr k) s = transmitStage k s := by
  cases k <;> rfl

/-! ## Steps -/

/-- What a host event that runs nothing can change: the agenda, the ports, the loaded answers and the last read. -/
def HostOnly (s t : State) : Prop :=
  ∃ ag cp pp ca wa lr, t = { s with
    agenda := ag, configPort := cp, pixelPort := pp, claimAnswer := ca, writeAnswer := wa, lastRead := lr }

theorem HostOnly.refl (s : State) : HostOnly s s := ⟨_, _, _, _, _, _, rfl⟩

theorem HostOnly.popAgenda (s : State) : HostOnly s s.popAgenda := ⟨_, _, _, _, _, _, rfl⟩

theorem actTurn_hostOnly {s t : State} {th : Nat} {a : HostAct} (h : actTurn s th a = .host t) : HostOnly s t := by
  cases a <;> cases h <;> exact ⟨_, _, _, _, _, _, rfl⟩

theorem nextTurn_hostOnly {s t : State} (h : nextTurn s = .host t) : HostOnly s t := by
  obtain ⟨rfl | rfl, _⟩ | ⟨th, a, rest, _, ⟨_, rfl⟩ | ⟨_, _, ha⟩⟩ := nextTurn_host h
  · exact .refl t
  · exact .popAgenda s
  · exact .popAgenda s
  · exact actTurn_hostOnly ha

/-- Everything a step can be: a command word that a thread issues, a stage of the render in flight, or a host event. -/
theorem step_cases {s t : State} (h : step s = .next t) :
    (∃ th w rest, s.agenda = .act th (.issue w) :: rest ∧ nextTurn s = .run (decode w) (s.acceptFrom th) ∧
      CommandEffect (decode w) (s.acceptFrom th) t) ∨
    (∃ k ag, s.busy = true ∧ nextTurn s = .run (stageInstr k) { s with agenda := ag } ∧
      StageEffect k { s with agenda := ag } t) ∨
    (nextTurn s = .host t ∧ HostOnly s t) := by
  obtain ⟨i, u, hn, he⟩ | hn := step_next h
  · obtain ⟨hu, hb, k, _, rfl⟩ | ⟨th, w, rest, hag, _, _, rfl, rfl⟩ := nextTurn_run hn
    · have hstage := transmitStage_stageEffect (exec_stageInstr k u ▸ he)
      obtain rfl | rfl := hu
      · exact .inr (.inl ⟨k, u.agenda, hb, hn, hstage⟩)
      · exact .inr (.inl ⟨k, s.agenda.tail, hb, hn, hstage⟩)
    · exact .inl ⟨th, w, rest, hag, hn, exec_commandEffect (decode_ne_stageInstr w) he⟩
  · exact .inr (.inr ⟨hn, nextTurn_hostOnly hn⟩)

end Sys2Proof.Machine
end

section
/-! PROOFS. The state registers, step by step: FAULT_CONCURRENT (R32), REFUSED (R33), STATE (R25), LAST_GOOD (R37),
RESULT and ERR_INFO (R26, R27), and the STATUS view (R29). -/

namespace Sys2Proof.Machine

open Safety

/-! ## The sticky marks -/

/-- A command sets FAULT_CONCURRENT exactly where a render is in flight (R201). -/
theorem CommandEffect.faultConcurrent_eq {i : Instr} {s t : State} (h : CommandEffect i s t) :
    t.faultConcurrent = (s.faultConcurrent || s.busy) := by
  cases h with
  | concurrent hb => simp [hb]
  | completes v a d r info hb => simp [hb]
  | opens k _ hd => simp [State.busy, hd]
  | starts c _ hd => simp [State.busy, hd]
  | refuses c _ hd => simp [State.busy, hd]
  | closes _ hd => simp [State.busy, hd]

/-- No stage touches the sticky marks. -/
theorem StageEffect.marks_eq {k : Kind} {s t : State} (h : StageEffect k s t) :
    t.faultConcurrent = s.faultConcurrent ∧ t.refused = s.refused := by
  cases h <;> exact ⟨rfl, rfl⟩

/-- Settles O36: a command sets the mark exactly in flight, a stage and a host event leave it. -/
theorem concurrencyFaultIsStickyAndExact : Obligations.ConcurrencyFaultIsStickyAndExact := by
  refine ⟨rfl, fun s t h => ?_⟩
  obtain ⟨th, w, rest, _, hn, he⟩ | ⟨k, ag, _, hn, he⟩ | ⟨hn, _, _, _, _, _, _, rfl⟩ := step_cases h
  · have hb : (s.acceptFrom th).busy = s.busy := rfl
    have hword : ∃ w' u, nextTurn s = .run (decode w') u := ⟨w, _, hn⟩
    simp [he.faultConcurrent_eq, hb, inFlight_iff_busy, hword]
  · have hstage : ∀ w, stageInstr k ≠ decode w := fun w => (decode_ne_stageInstr w k).symm
    simp [he.marks_eq, hn, hstage]
  · simp [hn]

/-- A RENDER is issued in IDLE for a strip of another length than CFG.LED_COUNT (R210). -/
def WrongLength (i : Instr) (s : State) : Prop :=
  i = .render ∧ s.drv = .idle ∧ ∃ c, s.cfg = some c ∧ s.pixelPort.length ≠ c.ledCount.toNat

/-- A command sets REFUSED exactly where it is a RENDER of a strip of another length (R33, R210). -/
theorem CommandEffect.refused_iff {i : Instr} {s t : State} (h : CommandEffect i s t) :
    t.refused = true ↔ s.refused = true ∨ WrongLength i s := by
  cases h with
  | concurrent hb =>
    have hw : ¬ WrongLength i s := fun ⟨_, hd, _⟩ => by simp [State.busy, hd] at hb
    simp [hw]
  | completes v a d r info hb hr =>
    have hw : ¬ WrongLength i s := fun ⟨hi, hd, _⟩ => by simp [hr hi] at hd
    simp [hw]
  | opens k hi => simp [WrongLength, hi]
  | starts c hi hd hc hl => simp [WrongLength, hc, hl]
  | refuses c hi hd hc hl => simp [WrongLength, hi, hd, hc, hl]
  | closes hi => simp [WrongLength, hi]

/-- Settles O37: a command sets the mark exactly where it is a RENDER of a strip of another length, a stage and a host
event leave it. -/
theorem refusalMarkIsStickyAndExact : Obligations.RefusalMarkIsStickyAndExact := by
  refine ⟨rfl, fun s t h => ?_⟩
  obtain ⟨th, w, rest, _, hn, he⟩ | ⟨k, ag, _, hn, he⟩ | ⟨hn, _, _, _, _, _, _, rfl⟩ := step_cases h
  · simp [he.refused_iff, WrongLength, hn]
  · have hstage : stageInstr k ≠ .render := by cases k <;> nofun
    simp [he.marks_eq, hn, hstage]
  · simp [hn]

/-! ## STATE -/

/-- The invariant does not speak of the agenda. -/
theorem consistent_withAgenda {s : State} (h : Consistent s) (ag : List HostEvent) :
    Consistent { s with agenda := ag } :=
  ⟨h.off, h.opened, h.resting, h.encoding, h.transmitting, h.blocked, h.mapped, h.resultLegal, h.shown⟩

/-- A legal record has a channel order that is a permutation (R202). -/
theorem perm_of_checkConfig_legal {pinOk : Kind → Word32 → Bool} {c : ConfigRecord} {k : Kind}
    (h : checkConfig pinOk c = .legal k) : perm c.order = true := by
  by_contra hp
  unfold checkConfig at h
  cases hk : kindOfCode c.kind <;> simp [hk, hp] at h

/-- A channel order that is a permutation is never rejected (R134). -/
theorem renderFrame_ne_none {c : ConfigRecord} (h : perm c.order = true) (strip : Strip) :
    renderFrame c strip ≠ none := by
  simp [renderFrame, serializeCfg, serialize, h]

/-- Under the invariant no strip is rejected by serialize (R135). -/
theorem renderFrame_ne_none_of_consistent {s : State} {c : ConfigRecord} (h : Consistent s) (hc : s.cfg = some c)
    (strip : Strip) : renderFrame c strip ≠ none := by
  have hd : s.drv ≠ .off := fun hd => by simp [(h.off hd).1] at hc
  obtain ⟨c', k, _, hc', hlegal, _⟩ := h.opened hd
  obtain rfl : c = c' := Option.some.inj (hc.symm.trans hc')
  exact renderFrame_ne_none (perm_of_checkConfig_legal hlegal) strip

/-- The moves of STATE that a command makes (R25). -/
theorem CommandEffect.drv_moves {i : Instr} {s t : State} (h : CommandEffect i s t) :
    t.drv = s.drv ∨ (s.drv = .off ∧ t.drv = .idle ∧ i = .init ∧ t.result = 0x00) ∨
    (s.drv = .idle ∧ t.drv = .encoding ∧ i = .render) ∨ (s.drv = .idle ∧ t.drv = .off ∧ i = .shutdown) := by
  cases h with
  | concurrent | completes | refuses => exact .inl rfl
  | opens k hi hd => exact .inr (.inl ⟨hd, rfl, hi, rfl⟩)
  | starts c hi hd => exact .inr (.inr (.inl ⟨hd, rfl, hi⟩))
  | closes hi hd => exact .inr (.inr (.inr ⟨hd, rfl, hi⟩))

/-- The moves of STATE that a stage makes under the invariant (R25, R211, R212). -/
theorem StageEffect.drv_moves {k : Kind} {s t : State} (h : StageEffect k s t) (hs : Consistent s) :
    (s.drv = .encoding ∧ t.drv = .idle ∧ t.result = 0x02) ∨
    (s.drv = .encoding ∧ t.drv = .transmitting ∧ t.result = s.result ∧
      ∃ c p e, s.cfg = some c ∧ t.pending = some { strip := p, encoded := some e } ∧
        e.bytes.length ≤ c.capacity.toNat) ∨
    (s.drv = .transmitting ∧ t.drv = .idle ∧ (t.result = 0x00 ∨ t.result = 0x04)) := by
  cases h with
  | rejects c p hd hc hf => exact absurd hf (renderFrame_ne_none_of_consistent hs hc p.strip)
  | overflows info hd => exact .inl ⟨hd, rfl, rfl⟩
  | fills c p e m hd hc hl => exact .inr (.inl ⟨hd, rfl, rfl, c, p.strip, e, hc, rfl, hl⟩)
  | commits c p e b hd => exact .inr (.inr ⟨hd, rfl, .inl rfl⟩)
  | fails c b n hd => exact .inr (.inr ⟨hd, rfl, .inr rfl⟩)

/-- The row that runs as the stage of a kind is the row of R86. -/
theorem isStage_stageInstr (k : Kind) : IsStage k (stageInstr k) := by
  cases k <;> simp [IsStage, stageInstr]

/-- Settles O34: commands and stages make the moves of `CommandEffect.drv_moves` and `StageEffect.drv_moves`, and a host
event makes none. -/
theorem stateMovesOnlyAsTheRuleSays : Obligations.StateMovesOnlyAsTheRuleSays := by
  refine ⟨rfl, rfl, rfl, rfl, rfl, fun s hs hd => ?_, fun s t hs h hmove => ?_⟩
  · obtain ⟨hcfg, hhandle, _⟩ := hs.off hd
    exact ⟨hhandle, hcfg⟩
  · obtain ⟨th, w, rest, _, hn, he⟩ | ⟨k, ag, _, hn, he⟩ | ⟨_, _, _, _, _, _, _, rfl⟩ := step_cases h
    · refine ⟨_, _, hn, ?_⟩
      obtain hkept | hopen | hstart | hclose := he.drv_moves
      · exact absurd hkept hmove
      · exact .inl hopen
      · exact .inr (.inl hstart)
      · exact .inr (.inr (.inr (.inr (.inr hclose))))
    · refine ⟨_, _, hn, ?_⟩
      have hstage : ∃ k', IsStage k' (stageInstr k) := ⟨k, isStage_stageInstr k⟩
      obtain ⟨hd, ht, hr⟩ | ⟨hd, ht, hr⟩ | ⟨hd, ht, hr⟩ := he.drv_moves (consistent_withAgenda hs ag)
      · exact .inr (.inr (.inl ⟨hd, ht, hstage, hr⟩))
      · exact .inr (.inr (.inr (.inl ⟨hd, ht, hstage, hr⟩)))
      · exact .inr (.inr (.inr (.inr (.inl ⟨hd, ht, hstage, hr⟩))))
    · exact absurd rfl hmove

/-! ## LAST_GOOD -/

/-- No command touches LAST_GOOD. -/
theorem CommandEffect.lastGood_eq {i : Instr} {s t : State} (h : CommandEffect i s t) : t.lastGood = s.lastGood := by
  cases h <;> rfl

/-- Under the invariant the physical write reads from TXBUF exactly the pending bytes (R60, R177; log entry 21). -/
theorem readFrame_eq_bytes {s : State} {p : Pending} {e : Encoded} {b : List Byte} (hs : Consistent s)
    (hd : s.drv = .transmitting) (hp : s.pending = some p) (he : p.encoded = some e) (hr : readFrame s e = .ok b) :
    b = e.bytes := by
  obtain ⟨c, k, strip, f, _, _, hp', _, _, hbuf, _⟩ := hs.transmitting hd
  obtain rfl : p = _ := Option.some.inj (hp.symm.trans hp')
  obtain rfl : e = _ := Option.some.inj he.symm
  obtain ⟨_, hlen, hread⟩ := (readFrame_eq_ok s _ b).1 hr
  refine List.ext_getElem? fun j => ?_
  by_cases hj : j < (bytesOf k c f).length
  · exact (hread j hj).symm.trans (hbuf j hj)
  · have hj : (bytesOf k c f).length ≤ j := not_lt.1 hj
    exact (List.getElem?_eq_none (hlen.trans_le hj)).trans (List.getElem?_eq_none hj).symm

/-- A stage changes LAST_GOOD only by the commit of R212: the pending frame, logged whole with outcome ok. -/
theorem StageEffect.lastGood_moves {k : Kind} {s t : State} (h : StageEffect k s t) (hs : Consistent s) :
    t.lastGood = s.lastGood ∨
    ∃ p e, s.drv = .transmitting ∧ s.pending = some { strip := p, encoded := some e } ∧
      t.lastGood = some (p, e.bytes) ∧ t.wire = s.wire ++ [⟨k, e.bytes, .ok⟩] ∧ t.result = 0x00 := by
  cases h with
  | rejects | overflows | fills | fails => exact .inl rfl
  | commits c p e b hd hp he hr =>
    obtain rfl := readFrame_eq_bytes hs hd hp he hr
    obtain ⟨strip, _⟩ := p
    cases he
    exact .inr ⟨strip, e, hd, hp, rfl, rfl, rfl⟩

/-- Settles O38: only the commit of a Transmitting stage writes LAST_GOOD. -/
theorem lastGoodChangesOnlyByACommit : Obligations.LastGoodChangesOnlyByACommit := by
  refine ⟨rfl, fun s t hs h => ?_⟩
  obtain ⟨th, w, rest, _, hn, he⟩ | ⟨k, ag, _, hn, he⟩ | ⟨_, _, _, _, _, _, _, rfl⟩ := step_cases h
  · exact .inl he.lastGood_eq
  · refine (he.lastGood_moves (consistent_withAgenda hs ag)).imp_right ?_
    rintro ⟨p, e, hcommit⟩
    exact ⟨p, e, k, hcommit⟩
  · exact .inl rfl

/-! ## RESULT, ERR_INFO and the completed commands -/

/-- No command has completed, and the result registers are as before. -/
def ResultsKept (s t : State) : Prop :=
  t.completions = s.completions ∧ t.result = s.result ∧ t.errInfo = s.errInfo

/-- One command has completed, for thread `th`, with what the result registers now hold (R200, R231). -/
def Completed (s t : State) (th : Nat) : Prop := t.completions = s.completions ++ [⟨th, t.result, t.errInfo⟩]

/-- A command that writes the result registers completes for its issuer, in OFF or IDLE (R26, R27). -/
theorem CommandEffect.completed {i : Instr} {s t : State} (h : CommandEffect i s t) :
    ResultsKept s t ∨ (s.busy = false ∧ Completed s t s.issuer) := by
  cases h with
  | concurrent | starts | refuses => exact .inl ⟨rfl, rfl, rfl⟩
  | completes v a d r info hb => exact .inr ⟨hb, rfl⟩
  | opens k _ hd => exact .inr ⟨busy_eq_false.2 (.inl hd), rfl⟩
  | closes _ hd => exact .inr ⟨busy_eq_false.2 (.inr hd), rfl⟩

/-- A stage that writes the result registers completes the render for the thread that issued it (R211, R212). -/
theorem StageEffect.completed {k : Kind} {s t : State} (h : StageEffect k s t) :
    ResultsKept s t ∨ Completed s t (s.renderThread.getD s.issuer) := by
  cases h with
  | fills => exact .inl ⟨rfl, rfl, rfl⟩
  | rejects | overflows | commits | fails => exact .inr rfl

/-- Settles O41: a command completes for the thread whose word the step took, a stage for the thread of the render, and
a host event completes nothing. -/
theorem resultsAreWrittenByCompletionsOnly : Obligations.ResultsAreWrittenByCompletionsOnly := by
  intro s t h
  obtain ⟨th, w, rest, hag, _, he⟩ | ⟨k, ag, hb, _, he⟩ | ⟨_, _, _, _, _, _, _, rfl⟩ := step_cases h
  · refine he.completed.imp_right ?_
    rintro ⟨hb, hdone⟩
    exact ⟨th, hdone, .inl ⟨ready_iff_not_busy.2 hb, w, rest, hag⟩⟩
  · exact he.completed.imp_right fun hdone => ⟨_, hdone, .inr ⟨inFlight_iff_busy.2 hb, rfl⟩⟩
  · exact .inl ⟨rfl, rfl, rfl⟩

/-! ## The STATUS view and the host's reads -/

/-- The bits of the STATUS view, from the lowest field up (R29). -/
theorem status_getLsbD (s : State) (i : Nat) :
    s.status.getLsbD i =
      if i < 2 then s.drv.code.getLsbD i
      else if i < 3 then s.warnCap
      else if i < 4 then s.faultConcurrent
      else if i < 5 then s.handle.isSome
      else if i < 8 then false
      else s.result.getLsbD (i - 8) := by
  have packed : s.status.getLsbD i = BitVec.getLsbD (w := 8 + 3 + 1 + 1 + 1 + 2) (s.result ++ 0#3 ++
    BitVec.ofBool s.handle.isSome ++ BitVec.ofBool s.faultConcurrent ++ BitVec.ofBool s.warnCap ++ s.drv.code) i := rfl
  simp only [packed, BitVec.getLsbD_append, BitVec.getLsbD_ofBool, BitVec.getLsbD_zero]
  grind

/-- The fields of the STATUS view (R29). -/
theorem status_fields (s : State) :
    s.status.extractLsb' 0 2 = s.drv.code ∧ s.status.getLsbD 2 = s.warnCap ∧
    s.status.getLsbD 3 = s.faultConcurrent ∧ s.status.getLsbD 4 = s.handle.isSome ∧
    s.status.extractLsb' 5 3 = 0 ∧ s.status.extractLsb' 8 8 = s.result := by
  refine ⟨BitVec.eq_of_getLsbD_eq fun i hi => ?_, status_getLsbD s 2, status_getLsbD s 3, status_getLsbD s 4,
    BitVec.eq_of_getLsbD_eq fun i hi => ?_, BitVec.eq_of_getLsbD_eq fun i hi => ?_⟩
  · simp [status_getLsbD, hi]
  · have below : ¬ 5 + i < 2 ∧ ¬ 5 + i < 3 ∧ ¬ 5 + i < 4 ∧ 5 + i < 8 := by omega
    simp [status_getLsbD, below]
  · have above : ¬ 8 + i < 2 ∧ ¬ 8 + i < 3 ∧ ¬ 8 + i < 4 ∧ ¬ 8 + i < 5 := by omega
    simp [status_getLsbD, above, hi]

/-- A thread that is blocked in nothing does not wait for the render in flight. -/
theorem waits_eq_false_of_free {s : State} {t : Nat} (h : Free s t) : s.waits t = false := by
  obtain ⟨_, hrender⟩ := h
  cases hb : s.busy with
  | false => simp [State.waits, hb]
  | true => simp [State.waits, hrender (inFlight_iff_busy.2 hb)]

/-- The next turn is the act of a thread that is blocked in nothing. -/
theorem nextTurn_of_free {s : State} {t : Nat} {a : HostAct} {rest : List HostEvent} (h : Free s t)
    (hag : s.agenda = .act t a :: rest) : nextTurn s = actTurn s t a := by
  have hw := waits_eq_false_of_free h
  obtain ⟨hhung, _⟩ := h
  simp only [nextTurn, hag, threadTurn_free hhung hw]

/-- A read by a thread that is blocked in nothing changes only the agenda and what was read last. -/
theorem step_read_of_free {s : State} {t : Nat} {r : HostReg} {rest : List HostEvent} (h : Free s t)
    (hag : s.agenda = .act t (.read r) :: rest) :
    step s = .next { s with agenda := rest, lastRead := some (s.hostRead r) } := by
  simp [step, nextTurn_of_free h hag, actTurn, State.popAgenda, hag]

/-- A write of STATUS by a thread that is blocked in nothing only uses up its event. -/
theorem step_writeStatus_of_free {s : State} {t : Nat} {v : Word16} {rest : List HostEvent} (h : Free s t)
    (hag : s.agenda = .act t (.writeStatus v) :: rest) : step s = .next { s with agenda := rest } := by
  simp [step, nextTurn_of_free h hag, actTurn, State.popAgenda, hag]

/-- Settles O24: the fields of STATUS, and the steps of a read and of a STATUS write. -/
theorem statusAndReadsHaveNoSideEffect : Obligations.StatusAndReadsHaveNoSideEffect := by
  refine ⟨status_fields, fun s t rest h => ⟨step_read_of_free h, step_read_of_free h, step_read_of_free h, ?_, ?_, ?_,
    fun v => step_writeStatus_of_free h⟩⟩
  · intro hag hr
    simp [step_read_of_free h hag, State.hostRead, hr]
  · intro f hag hr
    simp only [step_read_of_free h hag, State.hostRead, hr]
    rfl
  · intro k b hag hr
    simp [step_read_of_free h hag, State.hostRead, hr]

end Sys2Proof.Machine
end

section
/-! PROOFS. Byte layout: pixels on a byte-wide port (R69), SPI bytes on the line (R64, R163, R164), and units in TXBUF
(R62, R63). -/

namespace Sys2Proof.Machine

/-! ## Blocks of one length -/

/-- Where every element gives `w` entries, entry `k` of element `i` lies at `i·w + k`. -/
theorem getElem?_flatMap_of_length {α β : Type} {f : α → List β} {w : Nat} (hf : ∀ x, (f x).length = w)
    {l : List α} {i k : Nat} {x : α} (hx : l[i]? = some x) (hk : k < w) : (l.flatMap f)[i * w + k]? = (f x)[k]? := by
  induction l generalizing i with
  | nil => simp at hx
  | cons y ys ih =>
    rw [List.flatMap_cons]
    cases i with
    | zero =>
      obtain rfl : y = x := by simpa using hx
      rw [Nat.zero_mul, Nat.zero_add, List.getElem?_append_left (by simpa [hf] using hk)]
    | succ i =>
      have hi : (i + 1) * w + k = (f y).length + (i * w + k) := by rw [hf]; ring
      rw [hi, List.getElem?_append_right (Nat.le_add_right _ _), Nat.add_sub_cancel_left]
      exact ih (by simpa using hx)

/-! ## The byte-wide pixel port -/

@[simp] theorem length_pixelBytes (px : Pixel) : (pixelBytes px).length = 4 := rfl

@[simp] theorem portBytes_nil : portBytes [] = [] := rfl

@[simp] theorem portBytes_cons (px : Pixel) (s : Strip) :
    portBytes (px :: s) = px.r :: px.g :: px.b :: px.w :: portBytes s := rfl

@[simp] theorem length_portBytes (s : Strip) : (portBytes s).length = 4 * s.length := by
  simp [portBytes, List.length_flatMap, Nat.mul_comm]

/-- Byte `k` of pixel `p` lies at `4p + k` (R69). -/
theorem portBytes_getElem? {s : Strip} {p k : Nat} {px : Pixel} (hp : s[p]? = some px) (hk : k < 4) :
    (portBytes s)[4 * p + k]? = (pixelBytes px)[k]? := by
  rw [Nat.mul_comm]
  exact getElem?_flatMap_of_length length_pixelBytes hp hk

/-- The port carries a strip exactly where its bytes are that strip's (R69). -/
theorem stripOfPort_eq_some (b : List Byte) (s : Strip) : stripOfPort b = some s ↔ b = portBytes s := by
  induction s generalizing b with
  | nil =>
    match b with
    | [] | [_] | [_, _] | [_, _, _] | _ :: _ :: _ :: _ :: _ => simp [stripOfPort]
  | cons px s ih =>
    match b with
    | [] | [_] | [_, _] | [_, _, _] => simp [stripOfPort]
    | r :: g :: bl :: w :: rest =>
      obtain ⟨_, _, _, _⟩ := px
      simp [stripOfPort, ih, and_comm, and_assoc]

/-- Whole pixels carry a strip. -/
theorem exists_portBytes_eq : ∀ b : List Byte, b.length % 4 = 0 → ∃ s, b = portBytes s
  | [], _ => ⟨[], rfl⟩
  | r :: g :: bl :: w :: rest, h => by
    obtain ⟨s, hs⟩ := exists_portBytes_eq rest (by simpa [Nat.add_assoc] using h)
    exact ⟨⟨r, g, bl, w⟩ :: s, by simp [hs]⟩
  | [_], h | [_, _], h | [_, _, _], h => by simp at h

/-- Settles O26: the layout is `portBytes_getElem?`, and the correspondence is `stripOfPort_eq_some` with the count of
the bytes. -/
theorem bytePortHoldsPixelsInFixedOrder : Obligations.BytePortHoldsPixelsInFixedOrder := by
  refine ⟨fun s p px hp => ?_, fun s => ⟨length_portBytes s, (stripOfPort_eq_some _ s).2 rfl⟩, fun b hb => ?_,
    fun b hb => ?_⟩
  · have byte (k : Nat) (hk : k < 4) := portBytes_getElem? hp hk
    exact ⟨byte 0 (by decide), byte 1 (by decide), byte 2 (by decide), byte 3 (by decide)⟩
  · obtain ⟨s, hs⟩ := exists_portBytes_eq b hb
    exact ⟨s, (stripOfPort_eq_some b s).2 hs, hs.symm⟩
  · refine Option.eq_none_iff_forall_ne_some.2 fun s hs => hb ?_
    rw [(stripOfPort_eq_some b s).1 hs, length_portBytes, Nat.mul_mod_right]

/-! ## SPI bytes on the line -/

/-- A byte sends its eight bits in the order in which they were packed (R64, R164). -/
theorem spiByteBits_byteOfBits : ∀ b0 b1 b2 b3 b4 b5 b6 b7 : Bool,
    spiByteBits (byteOfBits [b0, b1, b2, b3, b4, b5, b6, b7]) = [b0, b1, b2, b3, b4, b5, b6, b7] := by decide

/-- Packed into whole bytes and sent bit 7 first, a bit stream is itself (R64, R164). -/
theorem spiLine_packBits : ∀ bits : List Bool, bits.length % 8 = 0 → spiLine (packBits bits) = bits
  | [], _ => rfl
  | b0 :: b1 :: b2 :: b3 :: b4 :: b5 :: b6 :: b7 :: rest, h => by
    have ih : (packBits rest).flatMap spiByteBits = rest := spiLine_packBits rest (by simpa [Nat.add_assoc] using h)
    simp [packBits, spiLine, spiByteBits_byteOfBits, ih]
  | [_], h | [_, _], h | [_, _, _], h | [_, _, _, _], h | [_, _, _, _, _], h | [_, _, _, _, _, _], h
  | [_, _, _, _, _, _, _], h => by simp at h

theorem spiPad_lt (n : Nat) : spiPad n < 8 := Nat.mod_lt _ (by decide)

/-- The padded bit stream is whole bytes (R163). -/
theorem length_spiPadded_mod (c : ConfigRecord) (s : Frame) : (spiPadded c s).length % 8 = 0 := by
  simp only [spiPadded, spiPad, List.length_append, List.length_replicate]
  omega

/-- Settles O55: the line carries the padded bit stream, which is the patterns and then the padding. -/
theorem spiLineCarriesThePatterns : Obligations.SpiLineCarriesThePatterns := by
  intro c s
  refine ⟨spiPad (spiBits c s).length, spiPad_lt _, (spiLine_packBits _ (length_spiPadded_mod c s)).trans ?_⟩
  refine congrArg (· ++ _) (congrArg (s.flatMap ·) (funext fun x => ?_))
  cases x <;> rfl

/-! ## Units in TXBUF -/

/-- Byte `k` of a value by division (R63). -/
theorem byteOf_eq_div (v k : Nat) : byteOf v k = BitVec.ofNat 8 (v / 2 ^ (8 * k)) := by
  rw [byteOf, Nat.shiftRight_eq_div_pow]

/-- The bytes of a value above its lowest are the bytes of the value shifted down by one byte. -/
theorem byteOf_succ (v k : Nat) : byteOf v (k + 1) = byteOf (v / 2 ^ 8) k := by
  rw [byteOf_eq_div, byteOf_eq_div, Nat.div_div_eq_div_mul, ← Nat.pow_add, Nat.mul_succ, Nat.add_comm]

/-- Where the bytes of a value stand from `i` on, `MemRead` gives the value, modulo the unit's width (R63). -/
theorem Memory.memRead_of_bytes {m : Memory} {i n v : Nat} (h : ∀ j < n, m.byte (i + j) = some (byteOf v j)) :
    m.memRead i n = some (v % 2 ^ (8 * n)) := by
  induction n generalizing i v with
  | zero => simp [Memory.memRead, Nat.mod_one]
  | succ n ih =>
    have low : m.byte i = some (byteOf v 0) := h 0 n.succ_pos
    have high : m.memRead (i + 1) n = some (v / 2 ^ 8 % 2 ^ (8 * n)) := ih fun j hj => by
      rw [← byteOf_succ, ← h (j + 1) (Nat.succ_lt_succ hj), Nat.add_assoc, Nat.add_comm 1 j]
    have digits : v % 2 ^ (8 * (n + 1)) = v % 2 ^ 8 + v / 2 ^ 8 % 2 ^ (8 * n) * 2 ^ 8 := by
      rw [Nat.mul_succ, Nat.add_comm, Nat.pow_add, Nat.mod_mul, Nat.mul_comm (2 ^ 8)]
    rw [digits]
    simp [Memory.memRead, low, high, byteOf, Nat.shiftLeft_eq]

/-- A unit that fits is written. -/
theorem Memory.memWrite_inside {m : Memory} {i n v : Nat} (h : i + n ≤ m.size) : ∃ m', m.memWrite i n v = some m' :=
  Memory.putBytes_inside (by rwa [length_leBytes])

/-- A unit that does not fit is not written: its last byte would stand outside the buffer. -/
theorem Memory.memWrite_outside {m : Memory} {i n v : Nat} (h : m.size < i + n) (hn : 0 < n) :
    m.memWrite i n v = none := by
  refine Option.eq_none_iff_forall_ne_some.2 fun m' hm => ?_
  obtain ⟨hsize, hbyte, _⟩ := Memory.memWrite_spec hm
  have last := hbyte (i + n - 1)
  have outside : ¬ i + n - 1 < m.size := by omega
  have inside : i ≤ i + n - 1 ∧ i + n - 1 < i + n := by omega
  simp [Memory.byte, hsize, outside, inside] at last

/-- `MemRead` after `MemWrite` gives the value, modulo the unit's width (R63). -/
theorem Memory.memRead_memWrite {m m' : Memory} {i n v : Nat} (h : m.memWrite i n v = some m') :
    m'.memRead i n = some (v % 2 ^ (8 * n)) := by
  obtain ⟨_, hbyte, _⟩ := Memory.memWrite_spec h
  exact Memory.memRead_of_bytes fun j hj => by simp [hbyte, hj]

/-- Byte `k` of unit `i` lies at `i·w + k`, little-endian (R62, R63). -/
theorem unitBytes_getElem? {w i k : Nat} {units : List Word32} {u : Word32} (hu : units[i]? = some u) (hk : k < w) :
    (unitBytes w units)[i * w + k]? = some (byteOf u.toNat k) := by
  rw [unitBytes, getElem?_flatMap_of_length (fun _ => length_leBytes w _) hu hk]
  simp [leBytes, hk]

/-- A fill from index 0 puts byte `j` of the frame at index `j` (R177). -/
theorem Memory.fill_byte {m m' : Memory} {bs : List Byte} {j : Nat} {b : Byte} (h : m.fill 0 bs = some m')
    (hb : bs[j]? = some b) : m'.byte j = some b := by
  obtain ⟨_, hbyte, _⟩ := Memory.fill_spec h
  obtain ⟨hj, rfl⟩ := List.getElem?_eq_some_iff.1 hb
  simp [hbyte, hj]

/-- After a fill from index 0, unit `i` reads back modulo its width (R62, R63, R177). -/
theorem Memory.memRead_fill_unitBytes {m m' : Memory} {w i : Nat} {units : List Word32} {u : Word32}
    (h : m.fill 0 (unitBytes w units) = some m') (hu : units[i]? = some u) :
    m'.memRead (i * w) w = some (u.toNat % 2 ^ (8 * w)) :=
  Memory.memRead_of_bytes fun _ hj => Memory.fill_byte h (unitBytes_getElem? hu hj)

/-- Settles O59: `MemRead` after `MemWrite`, and after a fill with the duty words or the samples of a frame. -/
theorem unitsAreStoredLittleEndian : Obligations.UnitsAreStoredLittleEndian := by
  refine ⟨fun m i n v hv => ⟨fun hfit => ?_, Memory.memWrite_outside⟩, fun m m' c s i x hx => ⟨fun h => ?_,
    fun h hsps t v ht => ?_⟩⟩
  · obtain ⟨m', hm⟩ := Memory.memWrite_inside hfit
    have hread := Memory.memRead_memWrite hm
    rw [Nat.mod_eq_of_lt hv] at hread
    obtain ⟨hsize, hbyte, _⟩ := Memory.memWrite_spec hm
    refine ⟨m', hm, hread, hsize, fun j hj => by simp [hbyte, hj, byteOf_eq_div], fun a ha => ?_⟩
    rw [hbyte, if_neg (by omega)]
  · exact Memory.memRead_fill_unitBytes h (by simp [hx])
  · obtain ⟨hlt, _⟩ := List.getElem?_eq_some_iff.1 ht
    rw [length_pcmSeq hsps] at hlt
    have sample : (s.flatMap (pcmSeq c))[i * c.pcmSps.toNat + t]? = some v :=
      (getElem?_flatMap_of_length (length_pcmSeq hsps) hx hlt).trans ht
    exact Memory.memRead_fill_unitBytes h sample

end Sys2Proof.Machine
end

section
/-! PROOFS. Words and instructions: the encoder and the decoder are inverse to each other, what the rows of R85 say of a
word, and what an illegal word does (R80-R86, R230). -/

namespace Sys2Proof.Machine

open Laws Safety

/-! ## The rows of R85 -/

/-- Two rows do not overlap where their match values differ on the bits that both masks keep (R85). -/
theorem not_both_rows {m v m' v' : Word16} (h : v &&& m' ≠ v' &&& m) (w : Word16) :
    ¬ (w &&& m = v ∧ w &&& m' = v') := by
  rintro ⟨rfl, rfl⟩
  exact h (by rw [BitVec.and_assoc, BitVec.and_assoc, BitVec.and_comm m])

/-- A row of R85, as a test and as an equation. -/
theorem matchesRow_iff {w m v : Word16} : matchesRow w m v = true ↔ w &&& m = v := beq_iff_eq

/-- A word of one row matches no row that does not overlap with it. -/
theorem not_matchesRow {w m v m' v' : Word16} (hw : matchesRow w m v = true) (h : v &&& m' ≠ v' &&& m) :
    ¬ matchesRow w m' v' = true :=
  fun hw' => not_both_rows h w ⟨matchesRow_iff.1 hw, matchesRow_iff.1 hw'⟩

/-- A word of the T_ENCODE row decodes to T_ENCODE with the operands in its fields IMM8 and BO. -/
theorem decode_of_tEncode_row {w : Word16} (h : matchesRow w 0x00EF 0x0004 = true) :
    decode w = .tEncode (fieldsOf w).imm8 (bitOrderOfBit (fieldsOf w).bo) := by
  have other (v : Word16) (hv : 0x0004 &&& 0xFFFF ≠ v &&& 0x00EF) := not_matchesRow h hv
  rw [decode, if_neg (other 0 (by decide)), if_neg (other 1 (by decide)), if_neg (other 2 (by decide)),
    if_neg (other 3 (by decide)), if_pos h]
  rfl

/-- A word of the T_INVERT row decodes to T_INVERT with the operand in its bit INV. -/
theorem decode_of_tInvert_row {w : Word16} (h : matchesRow w 0xFFDF 0x0006 = true) :
    decode w = .tInvert (w.getLsbD 5) := by
  have other (v : Word16) (hv : 0x0006 &&& 0xFFFF ≠ v &&& 0xFFDF) := not_matchesRow h hv
  rw [decode, if_neg (other 0 (by decide)), if_neg (other 1 (by decide)), if_neg (other 2 (by decide)),
    if_neg (other 3 (by decide)), if_neg (not_matchesRow h (by decide)), if_neg (other 5 (by decide)), if_pos h]

/-- A word decodes to an illegal instruction exactly where no row matches, and then to the one that holds the word. -/
theorem decode_eq_illegal_iff (w u : Word16) :
    decode w = .illegal u ↔ u = w ∧ EncodingRow.row w (.illegal w) = true := by
  constructor
  · intro h
    unfold decode at h
    split_ifs at h
    cases h
    simp_all [EncodingRow.row]
  · rintro ⟨rfl, h⟩
    unfold decode
    split_ifs <;> simp_all [EncodingRow.row]

/-! ## Fields and words -/

/-- The assembled word with given fields is the one that has those fields and RSV zero (R80). -/
theorem wordOfFields_eq_iff (op : BitVec 4) (bo inv : BitVec 1) (v : Byte) (w : Word16) :
    wordOfFields op bo inv v = w ↔ (fieldsOf w).op = op ∧ (fieldsOf w).bo = bo ∧ (fieldsOf w).inv = inv ∧
      (fieldsOf w).rsv = 0 ∧ (fieldsOf w).imm8 = v := by
  constructor
  · rintro rfl
    simp [fieldsOf_wordOfFields]
  · rintro ⟨hop, hbo, hinv, hrsv, himm⟩
    rw [word_eq_fields w, hop, hbo, hinv, hrsv, himm]
    rfl

@[simp] theorem bitOrderOfBit_bitOfBitOrder (bo : BitOrder) : bitOrderOfBit (bitOfBitOrder bo) = bo := by
  cases bo <;> rfl

@[simp] theorem bitOfBitOrder_bitOrderOfBit (b : BitVec 1) : bitOfBitOrder (bitOrderOfBit b) = b := by
  revert b
  decide

/-- A field of one bit is that bit. -/
theorem extractLsb'_one (w : Word16) (k : Nat) : w.extractLsb' k 1 = BitVec.ofBool (w.getLsbD k) := by
  ext i hi
  obtain rfl : i = 0 := Nat.lt_one_iff.1 hi
  simp

/-- BO is bit 4 (R80). -/
theorem fieldsOf_bo (w : Word16) : (fieldsOf w).bo = BitVec.ofBool (w.getLsbD 4) := extractLsb'_one w 4

/-- INV is bit 5 (R80). -/
theorem fieldsOf_inv (w : Word16) : (fieldsOf w).inv = BitVec.ofBool (w.getLsbD 5) := extractLsb'_one w 5

/-- The bit order in BO, read off bit 4 (R80, R90). -/
theorem fieldsOf_bo_eq_iff (w : Word16) (bo : BitOrder) :
    (fieldsOf w).bo = bitOfBitOrder bo ↔ bo = if w.getLsbD 4 then .lsb else .msb := by
  rw [fieldsOf_bo]
  cases w.getLsbD 4 <;> cases bo <;> decide

/-- The flag in INV, read off bit 5 (R80). -/
theorem fieldsOf_inv_eq_iff (w : Word16) (b : Bool) : (fieldsOf w).inv = BitVec.ofBool b ↔ b = w.getLsbD 5 := by
  rw [fieldsOf_inv]
  cases w.getLsbD 5 <;> cases b <;> decide

/-- R84 with the field table of R82 spelled out. -/
theorem legalWord_iff (w : Word16) :
    legalWord w = true ↔ (fieldsOf w).op.toNat < 8 ∧ (fieldsOf w).rsv = 0 ∧
      ((fieldsOf w).op ≠ 4 → (fieldsOf w).bo = 0 ∧ (fieldsOf w).imm8 = 0) ∧
      ((fieldsOf w).op ≠ 6 → (fieldsOf w).inv = 0) := by
  simp only [legalWord, zeroFieldsOk, Bool.and_eq_true, decide_eq_true_eq, beq_iff_eq]
  split_ifs with h4 h6
  · simp [h4]
  · simp [h6]
  · simp only [ne_eq, h4, h6, not_false_eq_true, true_imp_iff, Bool.and_eq_true, beq_iff_eq]
    tauto

/-! ## Encoding and decoding are inverse to each other -/

/-- Settles O2: the word of an instruction matches the row of the instruction, and the row and the fields fix what the
word decodes to. -/
theorem decodeOfEncodeIsTheInstruction : Obligations.DecodeOfEncodeIsTheInstruction := by
  intro i hi w h
  cases i with
  | nop | init | render | shutdown | tSerialize | tMap => cases h; rfl
  | transmitSpi | transmitPwm | transmitPcm => cases h
  | tEncode v bo =>
    have hrow := EncodingRow.tEncode v bo hi w h
    cases h
    rw [decode_of_tEncode_row hrow, fieldsOf_wordOfFields, bitOrderOfBit_bitOfBitOrder]
  | tInvert inv =>
    have hrow := EncodingRow.tInvert inv hi w h
    cases h
    rw [decode_of_tInvert_row hrow, ← (fieldsOf_inv_eq_iff _ inv).1 (by rw [fieldsOf_wordOfFields])]
  | illegal u =>
    have hrow := EncodingRow.illegal u hi w h
    cases h
    exact (decode_eq_illegal_iff w w).2 ⟨rfl, hrow⟩

/-- A legal word decodes to an instruction that is well formed: OP 4 and 6 match their rows, and with any other OP the
word has no operand. -/
theorem decode_wellFormed_of_legalWord {w : Word16} (h : legalWord w = true) : (decode w).wellFormed = true := by
  obtain ⟨_, hrsv, hbo, hinv⟩ := (legalWord_iff w).1 h
  by_cases h4 : (fieldsOf w).op = 4
  · rw [decode_of_tEncode_row ((matchesRow_tEncode w).2 ⟨h4, hinv (by simp [h4]), hrsv⟩)]
    rfl
  obtain ⟨hbo, himm⟩ := hbo h4
  by_cases h6 : (fieldsOf w).op = 6
  · rw [decode_of_tInvert_row ((matchesRow_tInvert w).2 ⟨h6, hbo, hrsv, himm⟩)]
    rfl
  have hw : wordOfFields (fieldsOf w).op 0 0 0 = w :=
    (wordOfFields_eq_iff _ _ _ _ w).2 ⟨rfl, hbo, hinv h6, hrsv, himm⟩
  have operandless : ∀ op : BitVec 4, (decode (wordOfFields op 0 0 0)).wellFormed = true := by decide
  exact hw ▸ operandless _

/-- What a word decodes to is well formed (R84). -/
theorem decode_wellFormed (w : Word16) : (decode w).wellFormed = true := by
  by_cases hl : legalWord w = true
  · exact decode_wellFormed_of_legalWord hl
  · cases hd : decode w with
    | illegal u =>
      obtain ⟨rfl, _⟩ := (decode_eq_illegal_iff w u).1 hd
      simpa [Instr.wellFormed] using hl
    | _ => rfl

/-- The word of what a word decodes to is the word (R80, R85). -/
theorem encode_decode (w : Word16) : encode (decode w) = some w := by
  by_cases he : matchesRow w 0x00EF 0x0004 = true
  · obtain ⟨hop, hinv, hrsv⟩ := (matchesRow_tEncode w).1 he
    rw [decode_of_tEncode_row he, encode, Option.some_inj, wordOfFields_eq_iff, bitOfBitOrder_bitOrderOfBit]
    exact ⟨hop, rfl, hinv, hrsv, rfl⟩
  by_cases hi : matchesRow w 0xFFDF 0x0006 = true
  · obtain ⟨hop, hbo, hrsv, himm⟩ := (matchesRow_tInvert w).1 hi
    rw [decode_of_tInvert_row hi, encode, Option.some_inj, wordOfFields_eq_iff]
    exact ⟨hop, hbo, fieldsOf_inv w, hrsv, himm⟩
  unfold decode
  rw [if_neg he, if_neg hi]
  split_ifs with h h h h h h
  iterate 6 exact congrArg some ((matchesRow_full w _).1 h).symm
  rfl

/-- Settles O3: `encode_decode` and `decode_wellFormed`. -/
theorem encodeOfDecodeIsTheWord : Obligations.EncodeOfDecodeIsTheWord :=
  fun w => ⟨encode_decode w, decode_wellFormed w⟩

/-- A word decodes to exactly the well-formed instruction whose word it is. -/
theorem decode_eq_iff (w : Word16) (i : Instr) : decode w = i ↔ i.wellFormed = true ∧ encode i = some w :=
  ⟨fun h => h ▸ ⟨decode_wellFormed w, encode_decode w⟩, fun ⟨hi, h⟩ => decodeOfEncodeIsTheInstruction i hi w h⟩

/-! ## What a word decodes to, row by row -/

/-- A command without operands is decoded from its one word, the match value of a row with mask 0xFFFF (R85). -/
theorem decode_eq_iff_of_word {i : Instr} {v : Word16} (hi : i.wellFormed = true) (hv : encode i = some v)
    (w : Word16) : decode w = i ↔ w &&& 0xFFFF = v := by
  rw [decode_eq_iff, hv, ← matchesRow_iff, matchesRow_full]
  simp [hi, eq_comm]

/-- The T_ENCODE row of R85 with its operands, bits 15..8 and bit 4. -/
theorem decode_eq_tEncode_iff (w : Word16) (v : Byte) (bo : BitOrder) : decode w = .tEncode v bo ↔
    w &&& 0x00EF = 0x0004 ∧ v = w.extractLsb' 8 8 ∧ bo = if w.getLsbD 4 then .lsb else .msb := by
  rw [decode_eq_iff, encode, Option.some_inj, wordOfFields_eq_iff, fieldsOf_bo_eq_iff,
    ← matchesRow_iff, matchesRow_tEncode, eq_comm (a := v)]
  simp only [Instr.wellFormed, fieldsOf]
  tauto

/-- The T_INVERT row of R85 with its operand, bit 5. -/
theorem decode_eq_tInvert_iff (w : Word16) (inv : Bool) : decode w = .tInvert inv ↔
    w &&& 0xFFDF = 0x0006 ∧ inv = w.getLsbD 5 := by
  rw [decode_eq_iff, encode, Option.some_inj, wordOfFields_eq_iff, fieldsOf_inv_eq_iff,
    ← matchesRow_iff, matchesRow_tInvert]
  simp only [Instr.wellFormed]
  tauto

/-- A word is not the word of an instruction that has none (R86). -/
theorem decode_ne_of_no_word {i : Instr} (hi : encode i = none) (w : Word16) : decode w ≠ i := by
  rintro rfl
  simp [encode_decode] at hi

/-- Settles O4: each command by what is said of its row, and the rows by `not_both_rows`. -/
theorem wordIsACommandExactlyWhenItsRowMatches : Obligations.WordIsACommandExactlyWhenItsRowMatches := by
  refine ⟨fun w => ⟨decode_eq_iff_of_word rfl rfl w, decode_eq_iff_of_word rfl rfl w, decode_eq_iff_of_word rfl rfl w,
    decode_eq_iff_of_word rfl rfl w, decode_eq_tEncode_iff w, decode_eq_iff_of_word rfl rfl w, decode_eq_tInvert_iff w,
    decode_eq_iff_of_word rfl rfl w, fun u => ?_, decode_ne_of_no_word rfl w, decode_ne_of_no_word rfl w,
    decode_ne_of_no_word rfl w⟩, ?_⟩
  · simp [decode_eq_illegal_iff, EncodingRow.row, matchesRow, and_assoc]
  · exact List.Pairwise.imp (R := fun a b : Word16 × Word16 => a.2 &&& b.1 ≠ b.2 &&& a.1) not_both_rows (by decide)

/-! ## Illegal words -/

/-- In OFF and IDLE an illegal word ends with ILLEGAL_COMMAND, its sub-code and the word, and changes nothing else
(R230). -/
theorem execIllegal_of_ready {s : State} (hs : Ready s) (w : Word16) : execIllegal w s =
    .next (finished s (if 8 ≤ (fieldsOf w).op.toNat then 0x15 else 0x25) (BitVec.ofNat 32 w.toNat)) := by
  have hsub : (CmdResult.illegalCommand (illegalSub w)).bits = if 8 ≤ (fieldsOf w).op.toNat then 0x15 else 0x25 := by
    unfold illegalSub
    split_ifs <;> rfl
  rw [execIllegal, whenFree_free (ready_iff_not_busy.1 hs), State.raise, ← hsub, BitVec.ofNat_toNat]
  rfl

/-- A word decodes to itself as illegal exactly where R84 does not call it legal. -/
theorem decode_eq_illegal_self_iff (w : Word16) : decode w = .illegal w ↔ ¬ legalWord w = true := by
  simp [decode_eq_iff, Instr.wellFormed, encode]

/-- Settles O5: an illegal word decodes to itself, and is executed as `execIllegal_of_ready` says. -/
theorem illegalWordsEndWithIllegalCommandOnly : Obligations.IllegalWordsEndWithIllegalCommandOnly := by
  intro w f legal
  have hiff : decode w = .illegal w ↔ ¬ legal := (decode_eq_illegal_self_iff w).trans (not_congr (legalWord_iff w))
  refine ⟨hiff, fun hl s hs => ?_⟩
  rw [hiff.2 hl]
  exact execIllegal_of_ready hs w

end Sys2Proof.Machine
end

section
/-! PROOFS. The BitEncoder: which bit each symbol of `encode` stands for, the laws of `encode`, the reference decoder as
its inverse, and T_ENCODE (R110-R115). -/

namespace Sys2Proof.Machine

open Safety

/-! ## Symbols and bits -/

/-- `idx(bo, ·)` stays below 8 (R111). -/
theorem bitIndex_lt (bo : BitOrder) {j : Nat} (hj : j < 8) : bitIndex bo j < 8 := by
  cases bo with
  | msb => simp only [bitIndex]; omega
  | lsb => exact hj

/-- `idx(bo, ·)` is its own inverse (R111). -/
theorem bitIndex_bitIndex (bo : BitOrder) {j : Nat} (hj : j < 8) : bitIndex bo (bitIndex bo j) = j := by
  cases bo with
  | msb => simp only [bitIndex]; omega
  | lsb => rfl

/-- `idx(bo, ·)` is injective (R111). -/
theorem bitIndex_eq_iff (bo : BitOrder) {i j : Nat} (hi : i < 8) (hj : j < 8) :
    bitIndex bo i = bitIndex bo j ↔ i = j := by
  cases bo with
  | msb => simp only [bitIndex]; omega
  | lsb => rfl

@[simp] theorem length_encodeChannel (v : Byte) (bo : BitOrder) : (encodeChannel v bo).length = 8 := by
  simp [encodeChannel, Config.chBits]

/-- Symbol `j` stands for bit `idx(bo, j)` (R110). -/
theorem getElem?_encodeChannel (v : Byte) (bo : BitOrder) {j : Nat} (hj : j < 8) :
    (encodeChannel v bo)[j]? = some (if v.getLsbD (bitIndex bo j) then .one else .zero) := by
  simp [encodeChannel, Config.chBits, List.getElem?_range hj]

@[simp] theorem length_encodeFrame (v : Byte) (bo : BitOrder) : (encodeFrame v bo).length = 8 := by
  simp [encodeFrame]

/-- A channel block has no IDLE. -/
theorem idle_notMem_encodeFrame (v : Byte) (bo : BitOrder) : FrameSym.idle ∉ encodeFrame v bo := by
  have data (x : Sym) : symToFrame x ≠ .idle := by cases x <;> nofun
  simp [encodeFrame, data]

/-- A channel block, symbol by symbol (R110, R131). -/
theorem encodeFrame_eq_map_range (v : Byte) (bo : BitOrder) : encodeFrame v bo =
    (List.range 8).map fun i => if v.getLsbD (bitIndex bo i) then .one else .zero := by
  simp only [encodeFrame, encodeChannel, Config.chBits, List.map_map]
  refine List.map_congr_left fun i _ => ?_
  cases h : v.getLsbD (bitIndex bo i) <;> simp [h, symToFrame]

/-- Bit `idx(bo, j)` read off symbol `j` (R110). -/
theorem getLsbD_bitIndex (v : Byte) (bo : BitOrder) {j : Nat} (hj : j < 8) :
    v.getLsbD (bitIndex bo j) = decide ((encodeFrame v bo)[j]? = some .one) := by
  rw [encodeFrame_eq_map_range, List.getElem?_map, List.getElem?_range hj]
  cases h : v.getLsbD (bitIndex bo j) <;> simp [h]

/-- Where one channel value in one order gives the block of another value in another order, the bits that stand at the
same place are equal. -/
theorem getLsbD_eq_of_encodeFrame_eq {u v : Byte} {bo bo' : BitOrder} (h : encodeFrame u bo = encodeFrame v bo')
    {j : Nat} (hj : j < 8) : u.getLsbD (bitIndex bo j) = v.getLsbD (bitIndex bo' j) := by
  rw [getLsbD_bitIndex u bo hj, getLsbD_bitIndex v bo' hj, h]

/-- `encode` is injective for each order (R112). -/
theorem encodeFrame_injective {u v : Byte} {bo : BitOrder} (h : encodeFrame u bo = encodeFrame v bo) : u = v :=
  BitVec.eq_of_getLsbD_eq fun _ hj =>
    bitIndex_bitIndex bo hj ▸ getLsbD_eq_of_encodeFrame_eq h (bitIndex_lt bo hj)

/-- The symbols of LSB are those of MSB reversed (R112). -/
theorem encodeChannel_lsb_eq_reverse (v : Byte) : encodeChannel v .lsb = (encodeChannel v .msb).reverse := rfl

/-- There are as many ONEs as 1 bits (R112): in LSB order symbol `j` is bit `j`, and MSB is the same symbols. -/
theorem count_one_encodeChannel (v : Byte) (bo : BitOrder) :
    (encodeChannel v bo).count .one = (List.range 8).countP fun j => v.getLsbD j := by
  have lsb : (encodeChannel v .lsb).count .one = (List.range 8).countP fun j => v.getLsbD j := by
    rw [encodeChannel, List.count, List.countP_map]
    refine List.countP_congr fun j _ => ?_
    cases h : v.getLsbD j <;> simp [bitIndex, h]
  cases bo with
  | lsb => exact lsb
  | msb => rw [← lsb, encodeChannel_lsb_eq_reverse, List.count_reverse]

/-- Settles O46: the position law and the laws that follow from it. -/
theorem encodeEmitsTheBitsInOrder : Obligations.EncodeEmitsTheBitsInOrder := by
  refine ⟨fun v j hj => ⟨getElem?_encodeChannel v .msb hj, getElem?_encodeChannel v .lsb hj⟩, length_encodeChannel,
    count_one_encodeChannel, encodeChannel_lsb_eq_reverse, fun bo => ?_,
    fun v v' bo h => encodeFrame_injective (congrArg (List.map symToFrame) h)⟩
  cases bo <;> exact ⟨rfl, rfl⟩

/-! ## The reference decoder -/

/-- A bit that a byte does not have is set by adding its weight. -/
theorem getLsbD_weight_add {x : Byte} {k : Nat} (hk : k < 8) (hx : x.getLsbD k = false) (n : Nat) :
    (BitVec.ofNat 8 (1 <<< k) + x).getLsbD n = (decide (k = n) || x.getLsbD n) := by
  have weight : BitVec.ofNat 8 (1 <<< k) = BitVec.twoPow 8 k :=
    BitVec.eq_of_toNat_eq (by rw [BitVec.toNat_twoPow, BitVec.toNat_ofNat, Nat.one_shiftLeft])
  have disjoint : BitVec.twoPow 8 k &&& x = 0#8 := by simp [BitVec.twoPow_and, hx]
  rw [weight, BitVec.add_eq_or_of_and_eq_zero _ _ disjoint, BitVec.getLsbD_or, BitVec.getLsbD_twoPow]
  simp [hk]

/-- The sum of the reference decoder from place `i` on has bit `idx(bo, j)` exactly where the symbol at place `j` is ONE
(R113): the weights that the loop adds are all different. -/
theorem getLsbD_refDecodeFrom (bo : BitOrder) {i j : Nat} (s : Frame) (hs : i + s.length ≤ 8) (hj : j < 8) :
    (BitVec.ofNat 8 (refDecodeFrom bo i s)).getLsbD (bitIndex bo j) = true ↔ ∃ d, j = i + d ∧ s[d]? = some .one := by
  induction s generalizing i j with
  | nil => simp [refDecodeFrom]
  | cons x xs ih =>
    simp only [List.length_cons] at hs
    have hi : i < 8 := by omega
    have rest {j : Nat} (hj : j < 8) := ih (i := i + 1) (by omega) hj
    have unset : (BitVec.ofNat 8 (refDecodeFrom bo (i + 1) xs)).getLsbD (bitIndex bo i) = false := by
      rw [Bool.eq_false_iff, ne_eq, rest hi]
      rintro ⟨d, hd, _⟩
      omega
    rw [← Nat.or_exists_add_one, refDecodeFrom, BitVec.ofNat_add]
    simp only [List.getElem?_cons_succ, ← Nat.add_assoc, Nat.add_right_comm i _ 1, ← rest hj]
    split_ifs with hx
    · simp [getLsbD_weight_add (bitIndex_lt bo hi) unset, bitIndex_eq_iff bo hi hj, hx, eq_comm (a := i)]
    · simp [hx]

/-- On every sequence the reference decoder is defined for, `encode` gives the sequence back (R113, R114). -/
theorem encodeFrame_refDecode {s : Frame} (bo : BitOrder) (hs : s.length = 8) (hidle : FrameSym.idle ∉ s) :
    ∃ v, refDecode s bo = some v ∧ encodeFrame v bo = s := by
  refine ⟨_, if_pos ⟨hs, hidle⟩, List.ext_getElem (by simp [hs]) fun j _ hj => ?_⟩
  have data : s[j] ≠ .idle := ne_of_mem_of_not_mem (List.getElem_mem hj) hidle
  have bit : (BitVec.ofNat 8 (refDecodeFrom bo 0 s)).getLsbD (bitIndex bo j) = true ↔ s[j] = .one := by
    rw [getLsbD_refDecodeFrom bo s (i := 0) (by omega) (hs ▸ hj)]
    simp [List.getElem?_eq_getElem hj]
  simp only [encodeFrame_eq_map_range, List.getElem_map, List.getElem_range, bit]
  cases h : s[j] with
  | one | zero => rfl
  | idle => exact absurd h data

/-- The reference decoder gives a channel value back from its block (R114): the value it gives has the same block. -/
theorem refDecode_encodeFrame (v : Byte) (bo : BitOrder) : refDecode (encodeFrame v bo) bo = some v := by
  obtain ⟨u, hu, hblock⟩ := encodeFrame_refDecode bo (length_encodeFrame v bo) (idle_notMem_encodeFrame v bo)
  rw [hu, encodeFrame_injective hblock]

/-- Settles O47: the round trip both ways, and the bits of a value whose LSB block is the MSB block of another. -/
theorem referenceDecoderInvertsEncode : Obligations.ReferenceDecoderInvertsEncode := by
  refine ⟨refDecode_encodeFrame, fun s bo => encodeFrame_refDecode bo, fun v => ?_, fun s bo h => if_neg (by tauto)⟩
  obtain ⟨u, hu, hblock⟩ := encodeFrame_refDecode .lsb (length_encodeFrame v .msb) (idle_notMem_encodeFrame v .msb)
  exact ⟨u, hu, fun j hj => getLsbD_eq_of_encodeFrame_eq hblock hj⟩

/-! ## Test-mode commands and T_ENCODE -/

/-- In flight a command is the concurrency fault, whatever it is (R201). -/
theorem concurrencyFault_whenFree {s : State} (h : InFlight s) (r : Outcome) : ConcurrencyFault s (s.whenFree r) :=
  ⟨_, whenFree_busy (inFlight_iff_busy.1 h)⟩

/-- In IDLE a test-mode command runs (R226). -/
theorem testMode_of_idle {s : State} (h : s.drv = .idle) (i : Instr) (r : Outcome) : s.testMode i r = r := by
  rw [State.testMode, whenFree_free (busy_eq_false.2 (.inr h)), if_neg (by simp [h])]

/-- In OFF a test-mode command ends with ILLEGAL_STATE and its word (R226). -/
theorem testMode_of_off {s : State} (h : s.drv = .off) (i : Instr) (r : Outcome) :
    s.testMode i r = .next (finished s 0x06 (wordInfo (commandWord i))) := by
  rw [State.testMode, whenFree_free (busy_eq_false.2 (.inl h)), if_pos h]
  rfl

/-- Putting two words together, as numbers. -/
theorem toNat_append_eq_add {m n : Nat} (x : BitVec m) (y : BitVec n) : (x ++ y).toNat = x.toNat * 2 ^ n + y.toNat := by
  rw [BitVec.toNat_append, ← Nat.shiftLeft_add_eq_or_of_lt y.isLt, Nat.shiftLeft_eq]

/-- The word of given fields as a number (R80). -/
theorem toNat_wordOfFields (op : BitVec 4) (bo inv : BitVec 1) (v : Byte) : (wordOfFields op bo inv v).toNat =
    v.toNat * 256 + inv.toNat * 32 + bo.toNat * 16 + op.toNat := by
  simp only [wordOfFields, toNat_append_eq_add, BitVec.toNat_ofNat]
  omega

/-- The word of T_ENCODE as a number (R80). -/
theorem wordInfo_tEncode (v : Byte) (bo : BitOrder) : wordInfo (commandWord (.tEncode v bo)) =
    BitVec.ofNat 32 (v.toNat * 256 + (if bo = .lsb then 16 else 0) + 4) := by
  rw [wordInfo, ← BitVec.ofNat_toNat, commandWord, encode, Option.getD_some, toNat_wordOfFields]
  cases bo <;> simp [bitOfBitOrder]

/-- Settles O7: the row by `decode_eq_tEncode_iff`, the outcomes by what a test-mode command does in each STATE. -/
theorem tEncodeShowsTheBitsOfItsImmediate : Obligations.TEncodeShowsTheBitsOfItsImmediate := by
  intro s v bo
  refine ⟨fun w => ?_, fun h => ?_, fun h => ?_, fun h => concurrencyFault_whenFree h _⟩
  · rw [decode_eq_tEncode_iff, eq_comm (a := v)]
    cases w.getLsbD 4 <;> cases bo <;> simp
  · refine (testMode_of_idle h _ _).trans ?_
    rw [encodeFrame_eq_map_range]
    rfl
  · exact (testMode_of_off h _ _).trans (by rw [wordInfo_tEncode])

end Sys2Proof.Machine
end

section
/-! PROOFS. The FrameSerializer: channel orders as permutations, the blocks of a pixel, where each symbol of a frame
stands, and T_SERIALIZE (R132-R139). -/

namespace Sys2Proof.Machine

open Safety

/-! ## Blocks of one length -/

/-- Where every element gives `w` entries, the entries from `i·w` on, `w` of them, are those of element `i`. -/
theorem take_drop_flatMap_of_length {α β : Type} {f : α → List β} {w : Nat} (hf : ∀ x, (f x).length = w)
    {l : List α} {i : Nat} {x : α} (hx : l[i]? = some x) : ((l.flatMap f).drop (i * w)).take w = f x := by
  refine List.ext_getElem? fun k => ?_
  by_cases hk : k < w
  · rw [List.getElem?_take_of_lt hk, List.getElem?_drop, getElem?_flatMap_of_length hf hx hk]
  · rw [List.getElem?_take_eq_none (by omega), List.getElem?_eq_none (by rw [hf]; omega)]

/-! ## Channel orders -/

@[simp] theorem length_orderChannels (order : BitVec 8) : (orderChannels order).length = 4 := rfl

/-- Slot `j` of an order holds the channel that `ORDER[j]` names (R88). -/
theorem getElem?_orderChannels (order : BitVec 8) {j : Nat} (hj : j < 4) :
    (orderChannels order)[j]? = some (orderAt order j) := by
  simp [orderChannels, Config.channels, List.getElem?_range hj]

/-- A valid order is one whose four channels are distinct (R88, R132). -/
theorem perm_iff {order : BitVec 8} : perm order = true ↔ (orderChannels order).Nodup := decide_eq_true_iff

/-- A valid order emits each of the four channels once (R132): four distinct channels are all there are. -/
theorem orderChannels_perm {order : BitVec 8} (h : perm order = true) : (orderChannels order).Perm [.r, .g, .b, .w] :=
  ((perm_iff.1 h).subperm fun c _ => by cases c <;> decide).perm_of_length_le le_rfl

/-- Two valid orders emit the same channels (R132). -/
theorem orderChannels_perm_orderChannels {o₁ o₂ : BitVec 8} (h₁ : perm o₁ = true) (h₂ : perm o₂ = true) :
    (orderChannels o₁).Perm (orderChannels o₂) :=
  (orderChannels_perm h₁).trans (orderChannels_perm h₂).symm

/-- The slot in which one valid order has the channel of slot `j` of another. -/
theorem exists_orderAt_eq {o₁ o₂ : BitVec 8} (h₁ : perm o₁ = true) (h₂ : perm o₂ = true) {j : Nat} (hj : j < 4) :
    ∃ j', j' < 4 ∧ orderAt o₁ j' = orderAt o₂ j := by
  have hmem : orderAt o₂ j ∈ orderChannels o₁ :=
    (orderChannels_perm_orderChannels h₁ h₂).mem_iff.2 (List.mem_of_getElem? (getElem?_orderChannels o₂ hj))
  simpa [orderChannels, Config.channels] using hmem

/-! ## The symbols of a pixel -/

@[simp] theorem length_pixelFrame (order : BitVec 8) (bo : BitOrder) (px : Pixel) :
    (pixelFrame order bo px).length = 32 := by
  simp [pixelFrame, List.length_flatMap]

/-- Channel block `j` of a pixel encodes the channel of slot `j` (R134). -/
theorem pixelFrame_block (order : BitVec 8) (bo : BitOrder) (px : Pixel) {j : Nat} (hj : j < 4) :
    ((pixelFrame order bo px).drop (8 * j)).take 8 = encodeFrame (chan px (orderAt order j)) bo := by
  rw [Nat.mul_comm]
  exact take_drop_flatMap_of_length (fun _ => length_encodeFrame _ bo) (getElem?_orderChannels order hj)

/-- Symbol `i` of channel block `j` of a pixel (R134). -/
theorem getElem?_pixelFrame (order : BitVec 8) (bo : BitOrder) (px : Pixel) {j i : Nat} (hj : j < 4) (hi : i < 8) :
    (pixelFrame order bo px)[j * 8 + i]? = (encodeFrame (chan px (orderAt order j)) bo)[i]? :=
  getElem?_flatMap_of_length (fun _ => length_encodeFrame _ bo) (getElem?_orderChannels order hj) hi

/-- The data symbols of a strip are no IDLEs. -/
theorem idle_notMem_flatMap_pixelFrame (strip : Strip) (order : BitVec 8) (bo : BitOrder) :
    FrameSym.idle ∉ strip.flatMap (pixelFrame order bo) := by
  simp [pixelFrame, idle_notMem_encodeFrame]

@[simp] theorem length_flatMap_pixelFrame (strip : Strip) (order : BitVec 8) (bo : BitOrder) :
    (strip.flatMap (pixelFrame order bo)).length = 32 * strip.length := by
  simp [List.length_flatMap, Nat.mul_comm]

/-- Symbol `i` of channel block `j` of pixel `p` among the data symbols of a strip (R138). -/
theorem getElem?_flatMap_pixelFrame {strip : Strip} {p j i : Nat} {px : Pixel} (order : BitVec 8) (bo : BitOrder)
    (hp : strip[p]? = some px) (hj : j < 4) (hi : i < 8) :
    (strip.flatMap (pixelFrame order bo))[32 * p + 8 * j + i]? = (encodeFrame (chan px (orderAt order j)) bo)[i]? := by
  have hplace : 32 * p + 8 * j + i = p * 32 + (j * 8 + i) := by ring
  rw [hplace, getElem?_flatMap_of_length (length_pixelFrame order bo) hp (by omega),
    getElem?_pixelFrame order bo px hj hi]

/-! ## serialize -/

/-- serialize on a valid order: lead-in, data, trailing idle (R134). -/
theorem serialize_of_perm {order : BitVec 8} (h : perm order = true) (strip : Strip) (bo : BitOrder)
    (lead trail : Nat) : serialize strip order bo lead trail = some
      (List.replicate lead .idle ++ strip.flatMap (pixelFrame order bo) ++ List.replicate trail .idle) :=
  if_pos h

/-- serialize answers a frame only for a valid order (R134). -/
theorem serialize_eq_some_iff {strip : Strip} {order : BitVec 8} {bo : BitOrder} {lead trail : Nat} {f : Frame} :
    serialize strip order bo lead trail = some f ↔ perm order = true ∧
      List.replicate lead .idle ++ strip.flatMap (pixelFrame order bo) ++ List.replicate trail .idle = f :=
  Option.ite_none_right_eq_some.trans (and_congr_right' Option.some_inj)

/-- The data begins after the lead-in (R134). -/
theorem getElem?_framed_data {d : Frame} {m : Nat} (hm : m < d.length) (lead trail : Nat) :
    (List.replicate lead .idle ++ d ++ List.replicate trail .idle)[lead + m]? = d[m]? := by
  rw [List.append_assoc, List.getElem?_append_right (by simp), List.length_replicate, Nat.add_sub_cancel_left,
    List.getElem?_append_left hm]

/-- Around data without IDLE, IDLE stands at the first `lead` and the last `trail` places only. -/
theorem getElem?_framed_eq_idle_iff {d : Frame} (hd : FrameSym.idle ∉ d) (lead trail n : Nat) :
    (List.replicate lead .idle ++ d ++ List.replicate trail .idle)[n]? = some FrameSym.idle ↔
      n < lead ∨ (lead + d.length ≤ n ∧ n < lead + d.length + trail) := by
  rcases lt_or_ge n lead with hlead | hlead
  · simp [hlead, List.getElem?_append_left]
  obtain ⟨m, rfl⟩ := Nat.exists_eq_add_of_le hlead
  rcases lt_or_ge m d.length with hm | hm
  · rw [getElem?_framed_data hm]
    exact iff_of_false (fun h => hd (List.mem_of_getElem? h)) (by omega)
  · rw [List.getElem?_append_right (by simpa using hm), List.getElem?_replicate]
    simp only [List.length_append, List.length_replicate, Option.ite_none_right_eq_some, and_true]
    omega

/-- Settles O48: the length is that of lead-in, 32 symbols a pixel, and trailing idle. -/
theorem serializedLengthIgnoresThePixels : Obligations.SerializedLengthIgnoresThePixels := by
  intro strip order bo lead trail
  refine ⟨fun h => ⟨_, serialize_of_perm (perm_iff.2 h) strip bo lead trail, by simp [Nat.mul_comm, Nat.add_assoc]⟩,
    fun h => if_neg (mt perm_iff.1 h)⟩

/-- Settles O49: the data begins after the lead-in and has no IDLE. -/
theorem everySymbolHasItsPlace : Obligations.EverySymbolHasItsPlace := by
  intro strip order bo lead trail f hf
  obtain ⟨_, rfl⟩ := serialize_eq_some_iff.1 hf
  refine ⟨fun p j i px hp hj hi => ?_, fun n => ?_⟩
  · obtain ⟨hin, _⟩ := List.getElem?_eq_some_iff.1 hp
    have hdata : 32 * p + 8 * j + i < (strip.flatMap (pixelFrame order bo)).length := by
      rw [length_flatMap_pixelFrame]
      omega
    have hplace : lead + 32 * p + 8 * j + i = lead + (32 * p + 8 * j + i) := by omega
    rw [hplace, getElem?_framed_data hdata, getElem?_flatMap_pixelFrame order bo hp hj hi, encodeFrame,
      List.getElem?_map]
  · rw [getElem?_framed_eq_idle_iff (idle_notMem_flatMap_pixelFrame strip order bo), length_flatMap_pixelFrame]

/-- Settles O50: a channel stands in one slot of each valid order, and its block does not depend on the slot. -/
theorem channelOrderPermutesWholeBlocks : Obligations.ChannelOrderPermutesWholeBlocks := by
  intro o₁ o₂ bo px h₁ h₂
  refine ⟨fun j hj => ?_, (orderChannels_perm_orderChannels h₁ h₂).map _⟩
  obtain ⟨j', hj', hch⟩ := exists_orderAt_eq h₁ h₂ hj
  exact ⟨j', hj', hch, by rw [pixelFrame_block o₂ bo px hj, pixelFrame_block o₁ bo px hj', hch]⟩

/-- Settles O51: the invariant rejects no strip in a render, whose frame is the inverted one of serialize. -/
theorem serializeNeverFailsInTheBlock : Obligations.SerializeNeverFailsInTheBlock := by
  intro s c p hs hc
  have hrender : (serializeCfg c p).map (applyInversion · c.invert) ≠ none := renderFrame_ne_none_of_consistent hs hc p
  exact Option.ne_none_iff_exists'.1 (by simpa using hrender)

/-! ## T_SERIALIZE -/

/-- In IDLE, where serialize gives a frame, T_SERIALIZE leaves it in TEST_REG and ends with OK (R137). -/
theorem execTSerialize_of_idle {s : State} {c : ConfigRecord} {f : Frame} (hd : s.drv = .idle) (hc : s.cfg = some c)
    (hf : serializeCfg c s.pixelPort = some f) :
    execTSerialize s = .next (s.finishTest (.syms f)) := by
  rw [execTSerialize, testMode_of_idle hd]
  simp only [hc, hf]

/-- Settles O8: the row of the one word 0x0005, and the outcomes by what a test-mode command does in each STATE. -/
theorem tSerializeShowsTheFrameOfThePixelPort : Obligations.TSerializeShowsTheFrameOfThePixelPort := by
  intro s c
  refine ⟨fun w => ?_, fun hd hc hp => ?_, fun hd => testMode_of_off hd _ _, fun h => concurrencyFault_whenFree h _⟩
  · exact (decode_eq_iff_of_word rfl rfl w).trans (matchesRow_iff.symm.trans (matchesRow_full w _))
  · exact execTSerialize_of_idle hd hc (serialize_of_perm hp s.pixelPort c.bitOrder _ _)

end Sys2Proof.Machine
end

section
/-! PROOFS. The InversionPolicy: `apply` symbol by symbol, its laws, and T_INVERT (R150-R153). -/

namespace Sys2Proof.Machine

open Safety

/-! ## swap and apply -/

/-- `swap` is its own inverse (R150). -/
theorem swapSym_involutive : Function.Involutive swapSym := fun x => by cases x <;> rfl

/-- Only IDLE is swapped to IDLE (R151). -/
theorem swapSym_eq_idle_iff (x : FrameSym) : swapSym x = .idle ↔ x = .idle := by
  cases x <;> simp [swapSym]

/-- `swap` negates the bit that a data symbol stands for (R110, R150). -/
theorem swapSym_ite (b : Bool) :
    swapSym (if b then .one else .zero) = if !b then FrameSym.one else .zero := by
  cases b <;> rfl

@[simp] theorem applyInversion_true (s : Frame) : applyInversion s true = s.map swapSym := rfl

@[simp] theorem applyInversion_false (s : Frame) : applyInversion s false = s := rfl

@[simp] theorem length_applyInversion (s : Frame) (inv : Bool) : (applyInversion s inv).length = s.length := by
  cases inv <;> simp

/-- `apply` keeps the places of IDLE (R151, R152). -/
theorem getElem?_applyInversion_eq_idle_iff (s : Frame) (inv : Bool) (n : Nat) :
    (applyInversion s inv)[n]? = some .idle ↔ s[n]? = some .idle := by
  cases inv with
  | false => rfl
  | true => simp [swapSym_eq_idle_iff]

/-- `apply` works symbol by symbol (R152). -/
theorem applyInversion_append (s t : Frame) (inv : Bool) :
    applyInversion (s ++ t) inv = applyInversion s inv ++ applyInversion t inv := by
  cases inv with
  | false => rfl
  | true => exact List.map_append

/-- The bits of the complement of a byte are the negated bits of the byte. -/
theorem getLsbD_xor_0xFF (v : Byte) {j : Nat} (hj : j < 8) : (v ^^^ 0xFF).getLsbD j = !v.getLsbD j := by
  have complement : v ^^^ 0xFF = ~~~v := BitVec.xor_allOnes
  rw [complement, BitVec.getLsbD_not, decide_eq_true hj, Bool.true_and]

/-- On a channel block `apply` complements the channel value (R152): every symbol stands for one of its bits. -/
theorem applyInversion_encodeFrame (v : Byte) (bo : BitOrder) :
    applyInversion (encodeFrame v bo) true = encodeFrame (v ^^^ 0xFF) bo := by
  rw [applyInversion_true, encodeFrame_eq_map_range, encodeFrame_eq_map_range, List.map_map]
  refine List.map_congr_left fun i hi => ?_
  rw [Function.comp_apply, swapSym_ite, getLsbD_xor_0xFF v (bitIndex_lt bo (List.mem_range.1 hi))]

/-- Settles O52: the laws of `apply`, each from what `swap` does to one symbol. -/
theorem inversionLaws : Obligations.InversionLaws :=
  ⟨swapSym_involutive.list_map, applyInversion_false,
    fun s inv => ⟨length_applyInversion s inv, getElem?_applyInversion_eq_idle_iff s inv⟩,
    applyInversion_encodeFrame, applyInversion_append⟩

/-! ## T_INVERT -/

/-- The word of T_INVERT: INV is bit 5 (R80, R85). -/
theorem encode_tInvert (inv : Bool) : encode (.tInvert inv) = some (if inv then 0x0026 else 0x0006) := by
  cases inv <;> rfl

/-- T_INVERT is decoded from its one word for each value of INV (R85). -/
theorem decode_eq_tInvert_iff_word (w : Word16) (inv : Bool) :
    decode w = .tInvert inv ↔ w = if inv then 0x0026 else 0x0006 := by
  rw [decode_eq_iff, encode_tInvert, Option.some_inj, eq_comm (b := w)]
  exact and_iff_right rfl

/-- What T_INVERT reports of its word (R226). -/
theorem wordInfo_tInvert (inv : Bool) :
    wordInfo (commandWord (.tInvert inv)) = if inv then 0x00000026 else 0x00000006 := by
  rw [commandWord, encode_tInvert, Option.getD_some]
  cases inv <;> rfl

/-- In IDLE, on symbols in TEST_REG, T_INVERT applies the inversion to them and ends with OK (R153). -/
theorem execTInvert_of_syms {s : State} {f : Frame} (hd : s.drv = .idle) (hf : s.testReg = .syms f) (inv : Bool) :
    execTInvert inv s = .next (s.finishTest (.syms (applyInversion f inv))) := by
  rw [execTInvert, testMode_of_idle hd]
  simp only [hf]

/-- In IDLE, without symbols in TEST_REG, T_INVERT ends with ILLEGAL_STATE and its word (R153). -/
theorem execTInvert_of_no_syms {s : State} (hd : s.drv = .idle) (hf : ∀ f, s.testReg ≠ .syms f) (inv : Bool) :
    execTInvert inv s = .next (finished s 0x06 (wordInfo (commandWord (.tInvert inv)))) := by
  rw [execTInvert, testMode_of_idle hd]
  cases hr : s.testReg with
  | syms f => exact absurd hr (hf f)
  | none | units => rfl

/-- Settles O9: the word for each INV, and the outcomes by what TEST_REG holds and what a test-mode command does in each
STATE. -/
theorem tInvertSwapsTheSymbolsOfTestReg : Obligations.TInvertSwapsTheSymbolsOfTestReg := by
  intro s inv
  refine ⟨fun w => decode_eq_tInvert_iff_word w inv, fun f hd hf => ?_, fun h => ?_,
    fun h => concurrencyFault_whenFree h _⟩
  · exact execTInvert_of_syms hd hf inv
  · rw [← wordInfo_tInvert]
    obtain hd | ⟨hd, hf⟩ := h
    · exact testMode_of_off hd _ _
    · exact execTInvert_of_no_syms hd hf inv

end Sys2Proof.Machine
end

section
/-! PROOFS. The TransportAdapter: the byte count of a strip's frame (R175), the SPI capacity boundary (R183), where each
byte of a PWM and of a PCM frame comes from (R166, R168, R170), and T_MAP (R185). -/

namespace Sys2Proof.Machine

open Safety

/-! ## The byte count of a strip -/

/-- A strip's frame has `N(L)` symbols (R175). -/
theorem length_of_serializeCfg {c : ConfigRecord} {p : Strip} {f : Frame} (h : serializeCfg c p = some f) :
    f.length = frameSyms c p.length := by
  obtain ⟨_, rfl⟩ := serialize_eq_some_iff.1 h
  rw [List.length_append, List.length_append, length_flatMap_pixelFrame, List.length_replicate, List.length_replicate]
  rfl

/-- A frame of `N(L)` symbols has `frameBytes(kind, L)` bytes, whatever its symbols are (R165, R167, R169, R175). -/
theorem length_bytesOf {k : Kind} {c : ConfigRecord} {s : Frame} {len : Nat} (hsps : k = .pcm → c.pcmSps.toNat ≤ 16)
    (hs : s.length = frameSyms c len) : (bytesOf k c s).length = frameBytes k c len := by
  cases k with
  | spi => rw [length_bytesOf_spi, hs, frameBytes]
  | pwm => rw [length_bytesOf_pwm, hs, frameBytes]
  | pcm => rw [length_bytesOf_pcm (hsps rfl), hs, frameBytes]

/-- Settles O54: serialize fixes the number of symbols, `apply` keeps it, and it fixes the number of bytes. -/
theorem frameBytesDependOnLengthOnly : Obligations.FrameBytesDependOnLengthOnly := by
  intro k c p f inv hsps hf
  refine ⟨length_bytesOf hsps ?_, ?_, ?_, ?_⟩
  · rw [length_applyInversion, length_of_serializeCfg hf]
  all_goals
    rintro rfl
    rfl

/-- With four bits a symbol and the idle lengths of P0, the table of R175 for SPI is linear in the pixels (R183). -/
theorem frameBytes_spi_eq {c : ConfigRecord} (hbps : c.spiBps = 4) (hlead : c.leadIdle = 0) (htrail : c.trailIdle = 32)
    (n : Nat) : frameBytes .spi c n = 16 * n + 16 := by
  have bits : frameSyms c n * c.spiBps.toNat = (32 * n + 32) * 4 := by
    simp [frameSyms, Config.symsPerPixel, Config.channels, Config.chBits, hbps, hlead, htrail]
  rw [frameBytes, bits, ceilDiv]
  omega

/-- Settles O57: the boundaries of `16·L + 16`. -/
theorem spiCapacityBoundary : Obligations.SpiCapacityBoundary := by
  intro c hbps hlead htrail
  have bytes := frameBytes_spi_eq hbps hlead htrail
  refine ⟨bytes, fun n => ?_, fun n => ?_, bytes 300⟩ <;>
    rw [bytes] <;> omega

/-! ## The bytes of PWM words and PCM samples -/

/-- Byte `k` of a word is its bits [8k+7:8k] (R63). -/
theorem byteOf_toNat (u : Word32) (k : Nat) : byteOf u.toNat k = u.extractLsb' (8 * k) 8 := rfl

/-- `seq(X)` keeps the entries below PCM_SPS in place (R96). -/
theorem getElem?_seqOf {sps : Nat} (x : Vector Word32 16) {t : Fin 16} (ht : t.val < sps) :
    (seqOf sps x)[t.val]? = some x[t] := by
  simp [seqOf, List.getElem?_take_of_lt ht]

/-- Where the configuration gives symbol `i` the sample `u` at place `t`, byte `k` of `u` lies at
`(i·PCM_SPS + t)·w + k` of the PCM bytes (R168, R170). -/
theorem getElem?_bytesOf_pcm {c : ConfigRecord} {s : Frame} {i t k : Nat} {x : FrameSym} {u : Word32}
    (hsps : c.pcmSps.toNat ≤ 16) (hx : s[i]? = some x) (ht : t < c.pcmSps.toNat) (hu : (pcmSeq c x)[t]? = some u)
    (hk : k < c.pcmSampleBytes.toNat) :
    (bytesOf .pcm c s)[(i * c.pcmSps.toNat + t) * c.pcmSampleBytes.toNat + k]? = some (u.extractLsb' (8 * k) 8) := by
  have sample : (s.flatMap (pcmSeq c))[i * c.pcmSps.toNat + t]? = some u :=
    (getElem?_flatMap_of_length (length_pcmSeq hsps) hx ht).trans hu
  rw [← byteOf_toNat]
  exact unitBytes_getElem? sample hk

/-- Byte `k` of the duty word of symbol `i` lies at `i·w + k` of the PWM bytes (R166, R170). -/
theorem getElem?_bytesOf_pwm {c : ConfigRecord} {s : Frame} {i k : Nat} {x : FrameSym} (hx : s[i]? = some x)
    (hk : k < c.pwmWordBytes.toNat) :
    (bytesOf .pwm c s)[i * c.pwmWordBytes.toNat + k]? = some ((duty c x).extractLsb' (8 * k) 8) := by
  have word : (s.map (duty c))[i]? = some (duty c x) := by rw [List.getElem?_map, hx, Option.map_some]
  rw [← byteOf_toNat]
  exact unitBytes_getElem? word hk

/-- Settles O56: the unit that each kind gives a symbol, one word or a sequence of samples, and its place. -/
theorem pwmAndPcmUnitsAreLaidOutLittleEndian : Obligations.PwmAndPcmUnitsAreLaidOutLittleEndian := by
  intro c s i x hx
  refine ⟨fun k hk => ?_, fun hsps t k ht hk => getElem?_bytesOf_pcm hsps hx ht ?_ hk⟩
  · rw [getElem?_bytesOf_pwm hx hk]
    cases x <;> rfl
  · cases x with
    | zero => exact getElem?_seqOf c.pcmSeqZero ht
    | one => exact getElem?_seqOf c.pcmSeqOne ht
    | idle => exact getElem?_seqOf c.pcmSeqIdle ht

/-! ## T_MAP -/

/-- In IDLE, on symbols in TEST_REG, T_MAP maps them for the kind of the configuration (R185). -/
theorem execTMap_of_syms {s : State} {c : ConfigRecord} {k : Kind} {f : Frame} (hd : s.drv = .idle)
    (hc : Configured s c k) (hf : s.testReg = .syms f) : execTMap s = mapSymbols s c k f := by
  obtain ⟨hcfg, hkind⟩ := hc
  rw [execTMap, testMode_of_idle hd]
  simp only [hf, hcfg, hkind]

/-- In IDLE, without symbols in TEST_REG, T_MAP ends with ILLEGAL_STATE and its word (R185). -/
theorem execTMap_of_no_syms {s : State} (hd : s.drv = .idle) (hf : ∀ f, s.testReg ≠ .syms f) :
    execTMap s = .next (finished s 0x06 (wordInfo (commandWord .tMap))) := by
  rw [execTMap, testMode_of_idle hd]
  cases hr : s.testReg with
  | syms f => exact absurd hr (hf f)
  | none | units => rfl

/-- Bytes that fit CFG.CAPACITY become the contents of TEST_REG (R176, R185). -/
theorem mapSymbols_of_fits {c : ConfigRecord} {k : Kind} {f : Frame} (h : (bytesOf k c f).length ≤ c.capacity.toNat)
    (s : State) : mapSymbols s c k f = .next (s.finishTest (.units k (bytesOf k c f))) := by
  rw [mapSymbols, overflows_eq_false.2 h]
  rfl

/-- More bytes end with BUFFER_OVERFLOW_ERROR and their saturated count (R93, R176, R185). -/
theorem mapSymbols_of_overflow {c : ConfigRecord} {k : Kind} {f : Frame}
    (h : c.capacity.toNat < (bytesOf k c f).length) (s : State) :
    mapSymbols s c k f = .next (finished s 0x02 (overflowInfo (bytesOf k c f).length)) :=
  if_pos (decide_eq_true h)

/-- Settles O10: the row of the one word 0x0007, and the outcomes by what TEST_REG holds, whether its bytes fit, and what
a test-mode command does in each STATE. -/
theorem tMapMapsTheSymbolsOrOverflows : Obligations.TMapMapsTheSymbolsOrOverflows := by
  intro s c k f
  refine ⟨fun w => ?_, fun hd hc hf hfit => ?_, fun hd hc hf hover => ?_, fun h => ?_,
    fun h => concurrencyFault_whenFree h _⟩
  · exact (decode_eq_iff_of_word rfl rfl w).trans (matchesRow_iff.symm.trans (matchesRow_full w _))
  · exact (execTMap_of_syms hd hc hf).trans (mapSymbols_of_fits hfit s)
  · exact (execTMap_of_syms hd hc hf).trans (mapSymbols_of_overflow hover s)
  · obtain hd | ⟨hd, hf⟩ := h
    · exact testMode_of_off hd _ _
    · exact execTMap_of_no_syms hd hf

end Sys2Proof.Machine
end

section
/-! PROOFS. The config check row by row (R202): each numbered check says the proposition of its row, and the verdict
names the least one that fails. -/

namespace Sys2Proof.Machine

open Safety

/-! ## The numbered checks -/

/-- A width of 1, 2 or 4 bytes (checks 6 and 13 of R202). -/
theorem widthLegal_iff (w : BitVec 3) : widthLegal w = true ↔ w.toNat = 1 ∨ w.toNat = 2 ∨ w.toNat = 4 := by
  simp [widthLegal, ← BitVec.toNat_inj, or_assoc]

/-- Check 14 of one sequence field, entry by entry (R96, R202). -/
theorem seqLegal_iff (c : ConfigRecord) (x : Vector Word32 16) : seqLegal c x = true ↔ SeqOk c x := by
  simp only [seqLegal, SeqOk, Bool.and_eq_true, List.all_eq_true, decide_eq_true_eq, beq_iff_eq, forall_and,
    List.forall_mem_iff_getElem, List.length_take, List.length_drop, Vector.length_toList, lt_inf_iff,
    List.getElem_take, List.getElem_drop, Vector.getElem_toList]
  refine and_congr ⟨fun h i hi => h i ⟨hi, i.isLt⟩, fun h i hi => h ⟨i, hi.2⟩ hi.1⟩
    ⟨fun h i hi => ?_, fun h d hd => h ⟨_, by omega⟩ (Nat.le_add_right _ d)⟩
  obtain ⟨d, hd⟩ := Nat.exists_eq_add_of_le hi
  simpa [← hd] using h d (by omega)

/-- Check 15, entry by entry: two sequences differ in a used entry (R96, R202). -/
theorem seqOf_ne_iff (sps : Nat) (x y : Vector Word32 16) :
    seqOf sps x ≠ seqOf sps y ↔ ∃ i : Fin 16, i.val < sps ∧ x[i] ≠ y[i] := by
  rw [ne_eq, ← not_iff_not]
  push Not
  refine ⟨fun h i hi => ?_, fun h => List.ext_getElem (by simp [seqOf]) fun i hi _ => ?_⟩
  · have entry := getElem?_seqOf x hi
    rwa [h, getElem?_seqOf y hi, Option.some_inj, eq_comm] at entry
  · simp only [seqOf, List.length_take, Vector.length_toList, lt_inf_iff] at hi
    simpa [seqOf] using h ⟨i, hi.2⟩ hi.1

/-- The list holds the checks that apply to the kind (R202). -/
theorem applies_iff (k : Kind) (c : ConfigRecord) (n : Nat) : Applies k n ↔ ∃ ok, (n, ok) ∈ paramChecks k c := by
  have numbers : Applies k n ↔ n ∈ (paramChecks k c).map Prod.fst := by
    cases k <;> simp [Applies, paramChecks] <;> omega
  simpa using numbers

/-- Each entry of the list holds the outcome of the check with its number (R202). -/
theorem snd_eq_true_iff_check {k : Kind} {c : ConfigRecord} : ∀ x ∈ paramChecks k c, (x.2 = true ↔ Check c x.1) := by
  cases k <;> simp [paramChecks, Check, widthLegal_iff, seqLegal_iff, seqOf_ne_iff, and_assoc]

/-- A check is listed as failing exactly where it applies and fails. -/
theorem mem_paramChecks_false_iff (k : Kind) (c : ConfigRecord) (n : Nat) :
    (n, false) ∈ paramChecks k c ↔ Applies k n ∧ ¬ Check c n := by
  rw [applies_iff k c]
  constructor
  · exact fun h => ⟨⟨_, h⟩, mt (snd_eq_true_iff_check _ h).2 nofun⟩
  · rintro ⟨⟨ok, h⟩, hn⟩
    obtain rfl : ok = false := by simpa [← snd_eq_true_iff_check _ h] using hn
    exact h

/-- The checks are listed in the order of their numbers (R202). -/
theorem pairwise_paramChecks (k : Kind) (c : ConfigRecord) : (paramChecks k c).Pairwise (·.1 < ·.1) := by
  cases k <;> simp [paramChecks]

/-- No check fails. -/
theorem firstFailing_eq_none_iff {l : List (Nat × Bool)} : firstFailing l = none ↔ ∀ n, (n, false) ∉ l := by
  induction l with
  | nil => simp [firstFailing]
  | cons x rest ih =>
    obtain ⟨m, ok⟩ := x
    cases ok with
    | true => simp [firstFailing, ih]
    | false => exact iff_of_false nofun fun h => h m List.mem_cons_self

/-- Where the numbers rise, the first check that fails is the one with the least number. -/
theorem firstFailing_eq_some_iff {l : List (Nat × Bool)} (hl : l.Pairwise (·.1 < ·.1)) {n : Nat} :
    firstFailing l = some n ↔ (n, false) ∈ l ∧ ∀ m < n, (m, false) ∉ l := by
  induction l with
  | nil => simp [firstFailing]
  | cons x rest ih =>
    obtain ⟨m, ok⟩ := x
    obtain ⟨hm, hrest⟩ := List.pairwise_cons.1 hl
    cases ok with
    | true => simp [firstFailing, ih hrest]
    | false =>
      simp only [firstFailing, Bool.false_eq_true, if_false, Option.some_inj, List.mem_cons, Prod.mk.injEq, and_true]
      constructor
      · rintro rfl
        refine ⟨.inl rfl, fun j hj => ?_⟩
        rintro (rfl | h)
        · omega
        · exact absurd (hm _ h) (by simp; omega)
      · rintro ⟨rfl | h, hleast⟩
        · rfl
        · exact absurd (Or.inl rfl) (hleast m (hm _ h))

/-! ## The verdict -/

/-- Only code 3 is no kind (R89). -/
theorem kindOfCode_eq_none_iff : ∀ code : BitVec 2, kindOfCode code = none ↔ code = 3 := by decide

/-- Settles O11: the verdict by the kind, the order, the pin and the first check that fails, which is the least number of a
check that applies and fails. -/
theorem configCheckReportsTheFirstFailure : Obligations.ConfigCheckReportsTheFirstFailure := by
  intro pinOk c
  have none_iff (k : Kind) : firstFailing (paramChecks k c) = none ↔ ∀ n, Applies k n → Check c n := by
    simp [firstFailing_eq_none_iff, mem_paramChecks_false_iff]
  have some_iff (k : Kind) (n : Nat) : firstFailing (paramChecks k c) = some n ↔
      Applies k n ∧ ¬ Check c n ∧ ∀ m, m < n → Applies k m → Check c m := by
    simp [firstFailing_eq_some_iff (pairwise_paramChecks k c), mem_paramChecks_false_iff, and_assoc]
  simp only [checkConfig, ← perm_iff, ← none_iff, ← some_iff, ← kindOfCode_eq_none_iff, ne_eq]
  cases hk : kindOfCode c.kind with
  | none => simp [eq_comm (a := 0)]
  | some k =>
    cases hp : perm c.order with
    | false => simp [eq_comm (a := 0)]
    | true =>
      cases hpin : pinOk k c.pin with
      | false => simp [hpin, eq_comm (a := 0)]
      | true => cases hf : firstFailing (paramChecks k c) <;> simp [hpin, hf]

end Sys2Proof.Machine
end

section
/-! PROOFS. The frame on the line determines the pixels: under a legal record ONE and ZERO have different patterns, so the
bytes determine the frame, and the frame determines the strip (R202). -/

namespace Sys2Proof.Machine

open Safety

/-! ## Blocks of one length -/

/-- Where two sequences of blocks of one length are equal, so are the blocks at one place. -/
theorem eq_of_flatMap_eq {α β : Type} {f g : α → List β} {w : Nat} (hf : ∀ x, (f x).length = w)
    (hg : ∀ x, (g x).length = w) {l m : List α} (h : l.flatMap f = m.flatMap g) {i : Nat} {x y : α}
    (hx : l[i]? = some x) (hy : m[i]? = some y) : f x = g y := by
  rw [← take_drop_flatMap_of_length hf hx, h, take_drop_flatMap_of_length hg hy]

/-! ## From the bytes to the frame -/

/-- Where ONE and ZERO have different codes, the code of a symbol determines it once it is known whether it is IDLE. -/
theorem sym_eq_of_code_eq {γ : Type} {code : FrameSym → γ} (hne : code .one ≠ code .zero) {x y : FrameSym}
    (hidle : x = .idle ↔ y = .idle) (h : code x = code y) : x = y := by
  cases x with
  | idle => exact (hidle.1 rfl).symm
  | one =>
    cases y with
    | one => rfl
    | zero => exact absurd h hne
    | idle => exact hidle.2 rfl
  | zero =>
    cases y with
    | zero => rfl
    | one => exact absurd h.symm hne
    | idle => exact hidle.2 rfl

/-- Two frames with IDLE at the same places are equal if their symbols give the same blocks and ONE and ZERO give
different ones. -/
theorem frame_eq_of_flatMap_eq {γ : Type} {code : FrameSym → List γ} {w : Nat} (hw : ∀ x, (code x).length = w)
    (hne : code .one ≠ code .zero) {f g : Frame} (hlen : f.length = g.length)
    (hidle : ∀ n : Nat, f[n]? = some .idle ↔ g[n]? = some .idle) (h : f.flatMap code = g.flatMap code) : f = g := by
  refine List.ext_getElem hlen fun n hf hg => sym_eq_of_code_eq hne ?_ ?_
  · simpa only [List.getElem?_eq_getElem hf, List.getElem?_eq_getElem hg, Option.some_inj] using hidle n
  · exact eq_of_flatMap_eq hw hw h (List.getElem?_eq_getElem hf) (List.getElem?_eq_getElem hg)

/-- The SPI bytes of two frames of one length are equal only if the patterns of their symbols are (R163, R164): the line
carries the patterns. -/
theorem spiBits_eq_of_bytesOf_eq {c : ConfigRecord} {f g : Frame} (hlen : f.length = g.length)
    (h : bytesOf .spi c f = bytesOf .spi c g) : f.flatMap (spiPat c) = g.flatMap (spiPat c) := by
  have line := congrArg spiLine h
  simp only [bytesOf] at line
  rw [spiLine_packBits _ (length_spiPadded_mod c f), spiLine_packBits _ (length_spiPadded_mod c g)] at line
  exact (List.append_inj line (by simp [hlen])).1

/-- The bytes of a unit determine its value, modulo the unit's width (R63): what `MemRead` gives after `MemWrite`. -/
theorem mod_eq_of_leBytes_eq {n u v : Nat} (h : leBytes n u = leBytes n v) : u % 2 ^ (8 * n) = v % 2 ^ (8 * n) := by
  obtain ⟨m, hu⟩ := Memory.memWrite_inside (m := ⟨n, []⟩) (i := 0) (n := n) (v := u) (by simp)
  have hv : Memory.memWrite ⟨n, []⟩ 0 n v = some m := by rw [← hu, Memory.memWrite, Memory.memWrite, h]
  exact Option.some_inj.1 ((Memory.memRead_memWrite hu).symm.trans (Memory.memRead_memWrite hv))

/-- The bytes of a word that fits its unit determine the word. -/
theorem word_eq_of_leBytes_eq {n : Nat} {u v : Word32} (hu : u.toNat < 2 ^ (8 * n)) (hv : v.toNat < 2 ^ (8 * n))
    (h : leBytes n u.toNat = leBytes n v.toNat) : u = v := by
  have values := mod_eq_of_leBytes_eq h
  rw [Nat.mod_eq_of_lt hu, Nat.mod_eq_of_lt hv] at values
  exact BitVec.eq_of_toNat_eq values

/-- The bits of a pattern determine it where it fits SPI_BPS bits (R94). -/
theorem pattern_eq_of_patBits_eq {bps : Nat} {u v : BitVec 16} (hu : u.toNat < 2 ^ bps) (hv : v.toNat < 2 ^ bps)
    (h : patBits bps u = patBits bps v) : u = v := by
  refine BitVec.eq_of_getLsbD_eq fun i _ => ?_
  rcases lt_or_ge i bps with hi | hi
  · have bit := List.map_inj_left.1 h (bps - 1 - i) (by simp; omega)
    have place : bps - 1 - (bps - 1 - i) = i := by omega
    rwa [place] at bit
  · have outside {w : BitVec 16} (hw : w.toNat < 2 ^ bps) : w.getLsbD i = false :=
      Nat.testBit_lt_two_pow (hw.trans_le (Nat.pow_le_pow_right two_pos hi))
    rw [outside hu, outside hv]

/-- The SPI patterns of ONE and ZERO differ (check 5 of R202, with checks 3 and 4). -/
theorem spiPat_one_ne_zero {c : ConfigRecord} (hc : ∀ n, Applies .spi n → Check c n) :
    spiPat c .one ≠ spiPat c .zero :=
  fun h => hc 5 (by simp [Applies]) (pattern_eq_of_patBits_eq (hc 3 (by simp [Applies])) (hc 4 (by simp [Applies])) h)

/-- The bytes of the duty words of ONE and ZERO differ (check 11 of R202, with checks 7 to 9). -/
theorem dutyBytes_one_ne_zero {c : ConfigRecord} (hc : ∀ n, Applies .pwm n → Check c n) :
    leBytes c.pwmWordBytes.toNat (duty c .one).toNat ≠ leBytes c.pwmWordBytes.toNat (duty c .zero).toNat := by
  obtain ⟨_, hrange⟩ : Check c 7 := hc 7 (by simp [Applies])
  have hone : c.pwmDutyOne.toNat ≤ c.pwmRange.toNat := hc 8 (by simp [Applies])
  have hzero : c.pwmDutyZero.toNat ≤ c.pwmRange.toNat := hc 9 (by simp [Applies])
  exact fun h => hc 11 (by simp [Applies]) (word_eq_of_leBytes_eq (hone.trans_lt hrange) (hzero.trans_lt hrange) h)

/-- The bytes of the sample sequences of ONE and ZERO differ (check 15 of R202, with check 14). -/
theorem sampleBytes_one_ne_zero {c : ConfigRecord} (hc : ∀ n, Applies .pcm n → Check c n) :
    unitBytes c.pcmSampleBytes.toNat (pcmSeq c .one) ≠ unitBytes c.pcmSampleBytes.toNat (pcmSeq c .zero) := by
  intro h
  obtain ⟨hone, hzero, _⟩ : Check c 14 := hc 14 (by simp [Applies])
  obtain ⟨i, hi, hne⟩ : Check c 15 := hc 15 (by simp [Applies])
  have sample := eq_of_flatMap_eq (fun _ => length_leBytes _ _) (fun _ => length_leBytes _ _) h
    (getElem?_seqOf c.pcmSeqOne hi) (getElem?_seqOf c.pcmSeqZero hi)
  exact hne (word_eq_of_leBytes_eq ((hone i).1 hi) ((hzero i).1 hi) sample)

/-- Under a legal record the bytes of a frame determine it among the frames with IDLE at the same places. -/
theorem frame_eq_of_bytesOf_eq {k : Kind} {c : ConfigRecord} (hc : ∀ n, Applies k n → Check c n) {f g : Frame}
    (hlen : f.length = g.length) (hidle : ∀ n : Nat, f[n]? = some .idle ↔ g[n]? = some .idle)
    (h : bytesOf k c f = bytesOf k c g) : f = g := by
  cases k with
  | spi =>
    exact frame_eq_of_flatMap_eq (length_spiPat c) (spiPat_one_ne_zero hc) hlen hidle
      (spiBits_eq_of_bytesOf_eq hlen h)
  | pwm =>
    simp only [bytesOf, unitBytes, List.flatMap_map] at h
    exact frame_eq_of_flatMap_eq (fun _ => length_leBytes _ _) (dutyBytes_one_ne_zero hc) hlen hidle h
  | pcm =>
    obtain ⟨_, hsps⟩ : Check c 12 := hc 12 (by simp [Applies])
    simp only [bytesOf, unitBytes, List.flatMap_assoc] at h
    have width (x : FrameSym) : (unitBytes c.pcmSampleBytes.toNat (pcmSeq c x)).length =
        c.pcmSps.toNat * c.pcmSampleBytes.toNat := by rw [length_unitBytes, length_pcmSeq hsps]
    exact frame_eq_of_flatMap_eq width (sampleBytes_one_ne_zero hc) hlen hidle h

/-! ## From the frame to the strip -/

/-- The symbols of a pixel determine it: a valid order sends each of its channels (R132, R134). -/
theorem pixelFrame_injective {order : BitVec 8} (hp : perm order = true) (bo : BitOrder) :
    Function.Injective (pixelFrame order bo) := by
  intro px px' h
  have channel (ch : Channel) : chan px ch = chan px' ch := by
    obtain ⟨j, hj⟩ := List.getElem?_of_mem ((orderChannels_perm hp).mem_iff.2 (by cases ch <;> decide : ch ∈ _))
    have block := eq_of_flatMap_eq (fun _ => length_encodeFrame _ bo) (fun _ => length_encodeFrame _ bo) h hj hj
    exact encodeFrame_injective block
  cases px
  cases px'
  exact (Pixel.mk.injEq ..).mpr ⟨channel .r, channel .g, channel .b, channel .w⟩

/-- `apply` is injective (R152). -/
theorem applyInversion_injective (inv : Bool) : Function.Injective (applyInversion · inv) := by
  cases inv with
  | false => exact fun _ _ h => h
  | true => exact swapSym_involutive.list_map.injective

/-- The frame of a strip determines it among the strips of its length (R134). -/
theorem strip_eq_of_serializeCfg_eq {c : ConfigRecord} {p q : Strip} {f : Frame} (hlen : p.length = q.length)
    (hp : serializeCfg c p = some f) (hq : serializeCfg c q = some f) : p = q := by
  obtain ⟨horder, rfl⟩ := serialize_eq_some_iff.1 hp
  obtain ⟨_, data⟩ := serialize_eq_some_iff.1 hq
  rw [List.append_left_inj, List.append_right_inj] at data
  refine List.ext_getElem hlen fun n hn hn' => pixelFrame_injective horder c.bitOrder ?_
  exact eq_of_flatMap_eq (length_pixelFrame _ _) (length_pixelFrame _ _) data.symm (List.getElem?_eq_getElem hn)
    (List.getElem?_eq_getElem hn')

/-- Settles O58: the bytes determine the inverted frame, since two strips of one length have IDLE at the same places; it
determines the frame, and that the strip. -/
theorem bytesOnTheLineDetermineTheStrip : Obligations.BytesOnTheLineDetermineTheStrip := by
  intro pinOk c k p q _ _ hlegal hlen hp hq hbytes
  obtain ⟨_, _, _, hc⟩ := ((configCheckReportsTheFirstFailure pinOk c).1 k).1 hlegal
  obtain ⟨f, hf, rfl⟩ := Option.map_eq_some_iff.1 hp
  obtain ⟨g, hg, rfl⟩ := Option.map_eq_some_iff.1 hq
  obtain ⟨_, hfidle⟩ := everySymbolHasItsPlace p _ _ _ _ f hf
  obtain ⟨_, hgidle⟩ := everySymbolHasItsPlace q _ _ _ _ g hg
  have inverted : applyInversion f c.invert = applyInversion g c.invert := by
    refine frame_eq_of_bytesOf_eq hc ?_ (fun n => ?_) hbytes
    · rw [length_applyInversion, length_applyInversion, length_of_serializeCfg hf, length_of_serializeCfg hg, hlen]
    · rw [getElem?_applyInversion_eq_idle_iff, getElem?_applyInversion_eq_idle_iff, hfidle, hgidle, hlen]
  obtain rfl : f = g := applyInversion_injective c.invert inverted
  exact strip_eq_of_serializeCfg_eq hlen hf hg

end Sys2Proof.Machine
end

section
/-! PROOFS. The driver's commands: any word in flight (R201), NOP (R225), INIT (R203), RENDER's issue step (R210) and
SHUTDOWN (R220, R221). -/

namespace Sys2Proof.Machine

open Safety

/-! ## Words and the state they find -/

/-- A command without operands is decoded from its one word. -/
theorem decode_eq_iff_eq_word {i : Instr} {v : Word16} (hi : i.wellFormed = true) (hv : encode i = some v)
    (w : Word16) : decode w = i ↔ w = v := by
  rw [decode_eq_iff, hv, Option.some_inj, eq_comm (a := v)]
  exact and_iff_right hi

/-- Every command that a word selects first asks whether a render is in flight (R200, R201). -/
theorem exec_eq_whenFree {i : Instr} (hi : ∀ k, i ≠ stageInstr k) (s : State) : ∃ r, exec i s = s.whenFree r := by
  cases i with
  | transmitSpi => exact absurd rfl (hi .spi)
  | transmitPwm => exact absurd rfl (hi .pwm)
  | transmitPcm => exact absurd rfl (hi .pcm)
  | nop | init | render | shutdown | tEncode | tSerialize | tInvert | tMap | illegal => exact ⟨_, rfl⟩

/-- Settles O18: what a word decodes to is no stage, and so asks first whether a render is in flight. -/
theorem anyWordInFlightIsTheConcurrencyFault : Obligations.AnyWordInFlightIsTheConcurrencyFault := by
  intro s w h
  obtain ⟨r, hr⟩ := exec_eq_whenFree (decode_ne_stageInstr w) s
  exact hr ▸ concurrencyFault_whenFree h r

/-- In OFF a command runs. -/
theorem whenFree_of_off {s : State} (h : s.drv = .off) (r : Outcome) : s.whenFree r = r :=
  whenFree_free (busy_eq_false.2 (.inl h))

/-- In IDLE a command runs. -/
theorem whenFree_of_idle {s : State} (h : s.drv = .idle) (r : Outcome) : s.whenFree r = r :=
  whenFree_free (busy_eq_false.2 (.inr h))

/-- Settles O6: NOP completes with OK wherever a command runs. -/
theorem nopWritesOnlyItsResult : Obligations.NopWritesOnlyItsResult :=
  ⟨decode_eq_iff_eq_word rfl rfl, fun _ => ⟨fun h => whenFree_free (ready_iff_not_busy.1 h),
    fun h => concurrencyFault_whenFree h _⟩⟩

/-- Settles O16: SHUTDOWN by STATE. -/
theorem shutdownReleasesTheHandle : Obligations.ShutdownReleasesTheHandle := by
  refine ⟨decode_eq_iff_eq_word rfl rfl, fun s => ⟨fun h => ?_, fun h => ?_, fun h => concurrencyFault_whenFree h _⟩⟩
  · exact (whenFree_of_idle h _).trans (if_neg (by simp [h]))
  · exact (whenFree_of_off h _).trans (if_pos h)

/-! ## RENDER -/

/-- In IDLE a RENDER is taken or refused by the length of the strip (R210). -/
theorem execRender_of_idle {s : State} {c : ConfigRecord} (hd : s.drv = .idle) (hc : s.cfg = some c) :
    execRender s = if s.pixelPort.length = c.ledCount.toNat then .next (s.startRender s.pixelPort)
      else .next s.markRefused := by
  rw [execRender, whenFree_of_idle hd, if_neg (by simp [hd])]
  simp only [hc]

/-- Settles O13: RENDER by STATE and by the length of the strip. -/
theorem renderTakesTheStripOnThePort : Obligations.RenderTakesTheStripOnThePort := by
  refine ⟨decode_eq_iff_eq_word rfl rfl, fun s c => ⟨fun hd hc hl => ⟨some s.issuer, ?_⟩,
    fun hd hc hl => ⟨s.issuer :: s.hung, ?_⟩, fun h => ?_, fun h => concurrencyFault_whenFree h _⟩⟩
  · exact (execRender_of_idle hd hc).trans (if_pos hl)
  · exact (execRender_of_idle hd hc).trans (if_neg hl)
  · exact (whenFree_of_off h _).trans (if_pos h)

/-! ## INIT -/

/-- In OFF an INIT on an illegal record ends with CONFIGURATION_ERROR, its draw taken (R203). -/
theorem execInit_of_bad {s : State} {sub : ConfigSub} {n : Nat} (hd : s.drv = .off)
    (hv : checkConfig s.pinOk s.configPort = .bad sub n) :
    execInit s = s.afterClaim.raise (.configurationError sub) (BitVec.ofNat 32 n) := by
  have hv' : checkConfig s.afterClaim.pinOk s.afterClaim.configPort = .bad sub n := hv
  rw [execInit, whenFree_of_off hd, initBody, State.afterClaim_drv, if_pos hd, hv']

/-- In OFF an INIT on a legal record turns on the claim, its draw taken (R203, R206). -/
theorem execInit_of_legal {s : State} {k : Kind} (hd : s.drv = .off)
    (hv : checkConfig s.pinOk s.configPort = .legal k) :
    execInit s = claimAndOpen s.afterClaim s.claimedElsewhere k s.configPort := by
  have hv' : checkConfig s.afterClaim.pinOk s.afterClaim.configPort = .legal k := hv
  rw [execInit, whenFree_of_off hd, initBody, State.afterClaim_drv, if_pos hd, hv', State.afterClaim_configPort]

/-- In IDLE an INIT ends with ILLEGAL_STATE, its draw taken (R205). -/
theorem execInit_of_idle {s : State} (hd : s.drv = .idle) : execInit s = s.afterClaim.raiseIllegalState .init := by
  rw [execInit, whenFree_of_idle hd, initBody, State.afterClaim_drv, if_neg (by simp [hd])]

/-- Settles O12: INIT by STATE, by the verdict on the record and by the claim; every outcome has taken the draw. -/
theorem initFollowsItsRule : Obligations.InitFollowsItsRule := by
  refine ⟨decode_eq_iff_eq_word rfl rfl, fun s => ⟨fun k hd hv hc => ⟨none, s.draws + 1, ?_⟩,
    fun sub n hd hv => ⟨none, s.draws + 1, ?_⟩, fun k hd hv hc => ⟨none, s.draws + 1, ?_⟩,
    fun hd => ⟨none, s.draws + 1, execInit_of_idle hd⟩, fun h => concurrencyFault_whenFree h _⟩⟩
  · exact (execInit_of_legal hd hv).trans (by rw [hc]; rfl)
  · refine (execInit_of_bad hd hv).trans ?_
    cases sub <;> rfl
  · exact (execInit_of_legal hd hv).trans (by rw [hc]; rfl)

end Sys2Proof.Machine
end

section
/-! PROOFS. The stages of a render: what the Encoding and the Transmitting stage answer (R180, R211, R212). -/

namespace Sys2Proof.Machine

open Safety

/-! ## The stage of a kind -/

/-- The row of R86 for a kind is the row that runs as its stage. -/
theorem eq_stageInstr_of_isStage {k : Kind} {i : Instr} (h : IsStage k i) : i = stageInstr k := by
  obtain ⟨rfl, rfl⟩ | ⟨rfl, rfl⟩ | ⟨rfl, rfl⟩ := h <;> rfl

/-- In ENCODING the row of CFG.KIND is the Encoding stage (R86, R211). -/
theorem exec_stage_of_encoding {s : State} {c : ConfigRecord} {k : Kind} {i : Instr} (hi : IsStage k i)
    (hd : s.drv = .encoding) (hc : Configured s c k) : exec i s = encodingStage k c s := by
  obtain ⟨hcfg, hkind⟩ := hc
  rw [eq_stageInstr_of_isStage hi, exec_stageInstr, transmitStage]
  simp only [hcfg, hkind, hd, if_true]

/-- In TRANSMITTING the row of CFG.KIND is the Transmitting stage (R86, R212). -/
theorem exec_stage_of_transmitting {s : State} {c : ConfigRecord} {k : Kind} {i : Instr} (hi : IsStage k i)
    (hd : s.drv = .transmitting) (hc : Configured s c k) : exec i s = transmittingStage k c s := by
  obtain ⟨hcfg, hkind⟩ := hc
  rw [eq_stageInstr_of_isStage hi, exec_stageInstr, transmitStage]
  simp only [hcfg, hkind, hd, if_true]

/-! ## The Encoding stage -/

/-- A frame of more than CFG.CAPACITY bytes ends the render (R176, R211). -/
theorem encodingStage_of_overflow {s : State} {c : ConfigRecord} {p : Pending} {f : Frame} (k : Kind)
    (hp : s.pending = some p) (hf : renderFrame c p.strip = some f)
    (hover : c.capacity.toNat < (bytesOf k c f).length) :
    encodingStage k c s = .next (renderFinished s 0x02 (overflowInfo (bytesOf k c f).length)) := by
  have ho : overflows c (bytesOf k c f) = true := decide_eq_true hover
  simp only [encodingStage, hp, hf, ho, if_true]
  rfl

/-- A frame that fits CFG.CAPACITY is stored (R176, R177, R211). -/
theorem encodingStage_of_fits {s : State} {c : ConfigRecord} {p : Pending} {f : Frame} {m m' : Memory} {k : Kind}
    (hp : s.pending = some p) (hf : renderFrame c p.strip = some f) (hm : s.txbuf = some m)
    (hfit : (bytesOf k c f).length ≤ c.capacity.toNat) (hfill : m.fill 0 (bytesOf k c f) = some m') :
    encodingStage k c s = .next (s.startTransmit p ⟨f, bytesOf k c f, (bytesOf k c f).length⟩ m') := by
  simp only [encodingStage, hp, hf, overflows_eq_false.2 hfit, fillBuffer, hm, hfill, Bool.false_eq_true, if_false]

/-- Settles O14: the frame overflows, or it fits and the fill puts its bytes at the front of TXBUF. -/
theorem encodingStageFollowsItsRule : Obligations.EncodingStageFollowsItsRule := by
  intro s c k i p f m hi hd hc hp hf hm hsize
  have hrender : renderFrame c p = some (applyInversion f c.invert) := Option.map_eq_some_iff.2 ⟨f, hf, rfl⟩
  rw [exec_stage_of_encoding hi hd hc]
  refine ⟨fun hover => encodingStage_of_overflow k hp hrender hover, fun hfit => ?_⟩
  obtain ⟨m', hfill⟩ := Memory.fill_inside (i := 0) (by rwa [Nat.zero_add, hsize])
  obtain ⟨hkeep, hbyte, _⟩ := Memory.fill_spec hfill
  exact ⟨m', encodingStage_of_fits hp hrender hm hfit hfill, hkeep, by simpa using hbyte⟩

/-! ## The Transmitting stage -/

/-- The pending bytes that stand in TXBUF are what the physical write sends (R60, R212). -/
theorem transmittingStage_of_stored {s : State} {k : Kind} {c : ConfigRecord} {p : Pending} {e : Encoded}
    (hp : s.pending = some p) (he : p.encoded = some e) (hr : readFrame s e = .ok e.bytes) :
    transmittingStage k c s = .next (sendFrame k c s p.strip e e.bytes) := by
  simp only [transmittingStage, hp, he, hr]

/-- What follows a physical write is what follows its answer, the draw taken and the write logged (R180, R212). -/
theorem sendFrame_eq (k : Kind) (c : ConfigRecord) (s : State) (p : Strip) (e : Encoded) (b : List Byte) :
    sendFrame k c s p e b =
      let a := boundedAnswer (b.length / unitWidth k c) (s.writeAnswer.getD (Config.physOutcome s.draws))
      afterAnswer (s.afterWrite.logWrite k (unitWidth k c) b a) p e.bytes a := rfl

/-- Settles O15: the write sends the pending bytes, and the render ends as its answer says. -/
theorem transmittingStageFollowsItsRule : Obligations.TransmittingStageFollowsItsRule := by
  intro s c k i p e hi hd hc hp hbuf hlen hbytes
  have stored : readFrame s e = .ok e.bytes :=
    (readFrame_eq_ok s e e.bytes).2 ⟨Option.ne_none_iff_exists'.1 hbuf, hlen.symm, hbytes⟩
  rw [exec_stage_of_transmitting hi hd hc, transmittingStage_of_stored hp rfl stored, sendFrame_eq]
  refine ⟨fun hok => ⟨s.draws + 1, ?_⟩, fun j hfail => ⟨min j (e.bytes.length / unitWidth k c), s.draws + 1,
    min_le_right _ _, min_eq_left, ?_⟩⟩
  · rw [hok]
    rfl
  · rw [hfail]
    rfl

end Sys2Proof.Machine
end

section
/-! PROOFS. The test-mode commands and TEST_REG: how NOP, an illegal word and a test-mode command can end (R225, R226,
R230), and which commands write TEST_REG (R35). -/

namespace Sys2Proof.Machine

open Safety

/-! ## In flight and at rest -/

/-- In flight no command is ready to run. -/
theorem not_ready_of_busy {s : State} (hb : s.busy = true) : ¬ Ready s := by
  simp [ready_iff_not_busy, hb]

/-- In flight STATE is not IDLE. -/
theorem drv_ne_idle_of_busy {s : State} (hb : s.busy = true) : s.drv ≠ .idle := fun hd =>
  not_ready_of_busy hb (.inr hd)

/-! ## How a test-mode command ends -/

/-- The commands that leave the driver and the peripheral alone: NOP, an illegal word, and the test-mode commands. -/
def IsTestCommand (i : Instr) : Prop :=
  i = .nop ∨ (∃ w, i = .illegal w) ∨ (∃ v bo, i = .tEncode v bo) ∨ i = .tSerialize ∨ (∃ inv, i = .tInvert inv) ∨
    i = .tMap

/-- What a test-mode command that ends OK leaves in TEST_REG: symbols (R115, R137, R153), or units that fit
CFG.CAPACITY (R185). -/
inductive Shows (s : State) : Instr → TestReg → Prop where
  | encoded (v : Byte) (bo : BitOrder) (f : Frame) : Shows s (.tEncode v bo) (.syms f)
  | serialized (f : Frame) : Shows s .tSerialize (.syms f)
  | inverted (inv : Bool) (f : Frame) : Shows s (.tInvert inv) (.syms f)
  | mapped (c : ConfigRecord) (k : Kind) (b : List Byte) (hc : Configured s c k)
      (hl : b.length ≤ c.capacity.toNat) : Shows s .tMap (.units k b)

/-- How NOP, an illegal word or a test-mode command can end. -/
inductive TestEffect (i : Instr) (s : State) : State → Prop where
  /-- A render is in flight: the command is not executed. -/
  | concurrent (hb : s.busy = true) : TestEffect i s s.markConcurrent
  /-- The command ends with a result and writes nothing else. -/
  | ends (r : CmdResult) (info : Word32) (hb : s.busy = false) : TestEffect i s (s.complete s.issuer r info)
  /-- The command ends OK in IDLE and writes TEST_REG. -/
  | shows (v : TestReg) (hd : s.drv = .idle) (hv : Shows s i v) : TestEffect i s (s.finishTest v)

/-- Everything NOP, an illegal word or a test-mode command can do when it answers a next state. -/
theorem exec_testEffect {i : Instr} {s t : State} (hi : IsTestCommand i) (h : exec i s = .next t) :
    TestEffect i s t := by
  have off (hd : s.drv = .off) : s.busy = false := busy_eq_false.2 (.inl hd)
  have idle (hd : s.drv = .idle) : s.busy = false := busy_eq_false.2 (.inr hd)
  obtain rfl | ⟨w, rfl⟩ | ⟨v, bo, rfl⟩ | rfl | ⟨inv, rfl⟩ | rfl := hi
  · obtain ⟨hb, rfl⟩ | ⟨hb, rfl⟩ := execNop_next h
    · exact .concurrent hb
    · exact .ends .ok 0 hb
  · obtain ⟨hb, rfl⟩ | ⟨hb, rfl⟩ := execIllegal_next h
    · exact .concurrent hb
    · exact .ends _ _ hb
  · obtain ⟨hb, rfl⟩ | ⟨hd, rfl⟩ | ⟨hd, rfl⟩ := execTEncode_next h
    · exact .concurrent hb
    · exact .ends _ _ (off hd)
    · exact .shows _ hd (.encoded v bo _)
  · obtain ⟨hb, rfl⟩ | ⟨hd, rfl⟩ | ⟨hd, _, _, ⟨_, rfl⟩ | ⟨f, _, rfl⟩⟩ := execTSerialize_next h
    · exact .concurrent hb
    · exact .ends _ _ (off hd)
    · exact .ends _ _ (idle hd)
    · exact .shows _ hd (.serialized f)
  · obtain ⟨hb, rfl⟩ | ⟨hd | ⟨hd, _⟩, rfl⟩ | ⟨hd, _, _, rfl⟩ := execTInvert_next h
    · exact .concurrent hb
    · exact .ends _ _ (off hd)
    · exact .ends _ _ (idle hd)
    · exact .shows _ hd (.inverted inv _)
  · obtain ⟨hb, rfl⟩ | ⟨hd | ⟨hd, _⟩, rfl⟩ | ⟨hd, _, c, k, _, hc, hk, ⟨_, rfl⟩ | ⟨ho, rfl⟩⟩ := execTMap_next h
    · exact .concurrent hb
    · exact .ends _ _ (off hd)
    · exact .ends _ _ (idle hd)
    · exact .ends _ _ (idle hd)
    · exact .shows _ hd (.mapped c k _ ⟨hc, hk⟩ (overflows_eq_false.1 ho))

/-- Settles O28: each way such a command can end leaves what the frame lists. -/
theorem testCommandsTouchOnlyTheirRegisters : Obligations.TestCommandsTouchOnlyTheirRegisters := by
  intro i s t hi h
  cases exec_testEffect hi h with
  | concurrent hb =>
    simp [State.bufferByte, not_ready_of_busy hb]
  | ends r info hb =>
    have notInFlight : ¬ InFlight s := by simp [inFlight_iff_busy, hb]
    simp [State.bufferByte, notInFlight]
  | shows v hd hv =>
    have notInFlight : ¬ InFlight s := by simp [InFlight, hd]
    have notSilent : ¬ (i = .nop ∨ ∃ w, i = .illegal w) := by cases hv <;> nofun
    simp [State.bufferByte, notInFlight, notSilent]

/-! ## TEST_REG -/

/-- What a command may do with TEST_REG: leave it, clear it as INIT and SHUTDOWN do, or show a value (R35). -/
def TestRegMove (i : Instr) (s t : State) : Prop :=
  t.testReg = s.testReg ∨
  (t.result = 0x00 ∧ (i = .init ∨ i = .shutdown) ∧ t.testReg = .none) ∨
  (t.result = 0x00 ∧ s.drv = .idle ∧ Shows s i t.testReg)

/-- Every command that a word selects moves TEST_REG in one of these ways. -/
theorem exec_testReg {i : Instr} {s t : State} (hi : ∀ k, i ≠ stageInstr k) (h : exec i s = .next t) :
    TestRegMove i s t := by
  have test (ht : IsTestCommand i) : TestRegMove i s t := by
    cases exec_testEffect ht h with
    | concurrent | ends => exact .inl rfl
    | shows v hd hv => exact .inr (.inr ⟨rfl, hd, hv⟩)
  cases i with
  | transmitSpi => exact absurd rfl (hi .spi)
  | transmitPwm => exact absurd rfl (hi .pwm)
  | transmitPcm => exact absurd rfl (hi .pcm)
  | nop | illegal | tEncode | tSerialize | tInvert | tMap => exact test (by simp [IsTestCommand])
  | init =>
    obtain ⟨_, rfl⟩ | ⟨_, rfl⟩ | ⟨_, _, _, _, rfl⟩ | ⟨_, _, _, _, rfl⟩ | ⟨_, _, _, _, rfl⟩ := execInit_next h
    case inr.inr.inr.inr => exact .inr (.inl ⟨rfl, .inl rfl, rfl⟩)
    all_goals exact .inl rfl
  | render =>
    obtain ⟨_, rfl⟩ | ⟨_, rfl⟩ | ⟨_, _, _, _, rfl⟩ | ⟨_, _, _, _, rfl⟩ := execRender_next h
    all_goals exact .inl rfl
  | shutdown =>
    obtain ⟨_, rfl⟩ | ⟨_, rfl⟩ | ⟨_, rfl⟩ := execShutdown_next h
    · exact .inl rfl
    · exact .inl rfl
    · exact .inr (.inl ⟨rfl, .inr rfl, rfl⟩)

/-- No stage of a render touches TEST_REG. -/
theorem StageEffect.testReg_eq {k : Kind} {s t : State} (h : StageEffect k s t) : t.testReg = s.testReg := by
  cases h <;> rfl

/-- Settles O42: a command writes TEST_REG as `exec_testReg` says, a stage and a host event leave it. -/
theorem testRegIsWrittenByTestCommandsOnly : Obligations.TestRegIsWrittenByTestCommandsOnly := by
  refine ⟨rfl, fun s t h hne => ?_⟩
  obtain ⟨th, w, rest, _, hn, _⟩ | ⟨k, ag, _, _, he⟩ | ⟨_, _, _, _, _, _, _, rfl⟩ := step_cases h
  · have hexec : exec (decode w) (s.acceptFrom th) = .next t := by simpa [step, hn] using h
    obtain hkept | ⟨hr, hi, hclear⟩ | ⟨hr, _, hv⟩ := exec_testReg (decode_ne_stageInstr w) hexec
    · exact absurd hkept hne
    · exact ⟨_, _, hn, hr, .inr (.inr (.inr (.inr ⟨hi, hclear⟩)))⟩
    · refine ⟨_, _, hn, hr, ?_⟩
      generalize decode w = i, t.testReg = v at hv
      cases hv with
      | encoded v bo f => exact .inl ⟨v, bo, f, rfl, rfl⟩
      | serialized f => exact .inr (.inl ⟨f, rfl, rfl⟩)
      | inverted inv f => exact .inr (.inr (.inl ⟨inv, f, rfl, rfl⟩))
      | mapped c k b => exact .inr (.inr (.inr (.inl ⟨k, b, rfl, rfl⟩)))
  · exact absurd he.testReg_eq hne
  · exact absurd rfl hne

end Sys2Proof.Machine
end

section
/-! PROOFS. The invariant: what it says in short, that reset meets it, and that each operation of a step keeps it. -/

namespace Sys2Proof.Machine

open Safety

/-! ## What the invariant says of the configuration -/

/-- A legal record has the kind of its verdict (R202). -/
theorem kindOfCode_of_checkConfig_legal {pinOk : Kind → Word32 → Bool} {c : ConfigRecord} {k : Kind}
    (h : checkConfig pinOk c = .legal k) : kindOfCode c.kind = some k := by
  obtain ⟨legal_iff, _⟩ := configCheckReportsTheFirstFailure pinOk c
  obtain ⟨hk, _⟩ := (legal_iff k).1 h
  exact hk

/-- Outside OFF a configuration with a kind is loaded (R23, R89). -/
theorem exists_configured {s : State} (hs : Consistent s) (hd : s.drv ≠ .off) : ∃ c k, Configured s c k := by
  obtain ⟨c, k, _, hc, hlegal, _⟩ := hs.opened hd
  exact ⟨c, k, hc, kindOfCode_of_checkConfig_legal hlegal⟩

/-- A loaded configuration means that the driver is open (R23, R25). -/
theorem drv_ne_off_of_cfg {s : State} {c : ConfigRecord} (hs : Consistent s) (hc : s.cfg = some c) : s.drv ≠ .off := by
  intro hd
  obtain ⟨hnone, _⟩ := hs.off hd
  simp [hnone] at hc

/-- A thread that may act is not the thread of a render in flight; at rest there is none (R200). -/
theorem renderThread_ne_of_not_waits {s : State} {th : Nat} (hs : Consistent s) (hw : s.waits th = false) :
    s.renderThread ≠ some th := by
  cases hb : s.busy with
  | true => simpa [State.waits, hb] using hw
  | false =>
    obtain ⟨_, hnone⟩ := hs.resting (ready_iff_not_busy.2 hb)
    simp [hnone]

/-! ## RESULT and LAST_GOOD -/

/-- Every way a command can end is a value of R91. -/
theorem bits_mem_legalResults (r : CmdResult) : r.bits ∈ legalResults := by
  cases r with
  | configurationError sub => cases sub <;> decide
  | illegalCommand sub => cases sub <;> decide
  | ok | bufferOverflow | resourceConflict | transportError | illegalState => decide

/-- A write answered `ok` is the last whole one. -/
@[simp] theorem lastSent_append_ok (wire : List WireEntry) (k : Kind) (b : List Byte) :
    lastSent (wire ++ [⟨k, b, .ok⟩]) = some b := by
  simp [lastSent]

/-- A failed write is not a whole one. -/
@[simp] theorem lastSent_append_fail (wire : List WireEntry) (k : Kind) (b : List Byte) :
    lastSent (wire ++ [⟨k, b, .fail⟩]) = lastSent wire := by
  simp [lastSent]

/-! ## Reset and host events -/

/-- Settles O32: reset is OFF with nothing loaded, nothing sent and RESULT 0. -/
theorem resetMeetsTheInvariant : Obligations.ResetMeetsTheInvariant where
  off := fun _ => ⟨rfl, rfl, rfl, rfl, rfl⟩
  opened := fun h => absurd rfl h
  resting := fun _ => ⟨rfl, rfl⟩
  encoding := nofun
  transmitting := nofun
  blocked := nofun
  mapped := nofun
  resultLegal := by decide
  shown := rfl

/-- The invariant does not speak of what a host event changes. -/
theorem HostOnly.consistent {s t : State} (h : HostOnly s t) (hs : Consistent s) : Consistent t := by
  obtain ⟨_, _, _, _, _, _, rfl⟩ := h
  exact ⟨hs.off, hs.opened, hs.resting, hs.encoding, hs.transmitting, hs.blocked, hs.mapped, hs.resultLegal, hs.shown⟩

/-- The invariant does not speak of which thread issued last. -/
theorem consistent_acceptFrom {s : State} (hs : Consistent s) (th : Nat) : Consistent (s.acceptFrom th) :=
  ⟨hs.off, hs.opened, hs.resting, hs.encoding, hs.transmitting, hs.blocked, hs.mapped, hs.resultLegal, hs.shown⟩

/-! ## The operations of the commands -/

/-- A thread that is not the thread of the render in flight may be blocked for good (R201, R210). -/
theorem not_mem_cons_hung {s : State} {th : Nat} (hs : Consistent s) (hth : s.renderThread ≠ some th) (t : Nat)
    (ht : s.renderThread = some t) : t ∉ th :: s.hung := by
  have hne : t ≠ th := fun h => hth (h ▸ ht)
  simp [hne, hs.blocked t ht]

/-- What a value must satisfy to stand in TEST_REG: none in OFF, and units that fit CFG.CAPACITY (R35, R185). -/
def TestRegOk (s : State) (v : TestReg) : Prop :=
  (s.drv = .off → v = .none) ∧ ∀ k b, v = .units k b → ∃ c, Configured s c k ∧ b.length ≤ c.capacity.toNat

/-- What TEST_REG holds after a command may stand there. -/
theorem TestRegMove.ok {i : Instr} {s t : State} (h : TestRegMove i s t) (hs : Consistent s) :
    TestRegOk s t.testReg := by
  obtain hkept | ⟨_, _, hclear⟩ | ⟨_, hd, hv⟩ := h
  · rw [hkept]
    refine ⟨fun hd => ?_, hs.mapped⟩
    obtain ⟨_, _, _, hnone, _⟩ := hs.off hd
    exact hnone
  · rw [hclear]
    exact ⟨fun _ => rfl, nofun⟩
  · refine ⟨fun hoff => by simp [hd] at hoff, fun k b hu => ?_⟩
    rw [hu] at hv
    cases hv with
    | mapped c _ _ hc hl => exact ⟨c, hc, hl⟩

/-- A command that a free thread issues keeps the invariant, where what it leaves in TEST_REG may stand there. -/
theorem CommandEffect.consistent {i : Instr} {s t : State} (h : CommandEffect i s t) (hs : Consistent s)
    (hhung : s.issuer ∉ s.hung) (hth : s.renderThread ≠ some s.issuer) (hv : TestRegOk s t.testReg) :
    Consistent t := by
  cases h with
  | concurrent | refuses =>
    exact ⟨hs.off, hs.opened, hs.resting, hs.encoding, hs.transmitting, not_mem_cons_hung hs hth, hs.mapped,
      hs.resultLegal, hs.shown⟩
  | completes v a d r info hb =>
    obtain ⟨hnone, hfit⟩ := hv
    refine ⟨fun hd => ?_, hs.opened, hs.resting, hs.encoding, hs.transmitting, hs.blocked, hfit,
      bits_mem_legalResults r, hs.shown⟩
    obtain ⟨hcfg, hhandle, hbuf, _, hwarn⟩ := hs.off hd
    exact ⟨hcfg, hhandle, hbuf, hnone hd, hwarn⟩
  | opens k _ hd hlegal =>
    exact ⟨nofun, fun _ => ⟨s.configPort, k, _, rfl, hlegal, rfl, rfl, rfl, rfl, rfl⟩, fun _ => hs.resting (.inl hd),
      nofun, nofun, hs.blocked, nofun, bits_mem_legalResults .ok, hs.shown⟩
  | starts c _ hd hc hl =>
    have blocked (t : Nat) (ht : some s.issuer = some t) : t ∉ s.hung := Option.some.inj ht ▸ hhung
    have opened := hs.opened (by simp [hd])
    exact ⟨nofun, fun _ => opened, nofun, fun _ => ⟨c, s.pixelPort, hc, rfl, hl, nofun⟩, nofun, blocked, hs.mapped,
      hs.resultLegal, hs.shown⟩
  | closes _ hd =>
    exact ⟨fun _ => ⟨rfl, rfl, rfl, rfl, rfl⟩, fun hoff => absurd rfl hoff, fun _ => hs.resting (.inr hd), nofun, nofun,
      hs.blocked, nofun, bits_mem_legalResults .ok, hs.shown⟩

/-! ## The operations of the stages -/

/-- The end of a render that is in flight keeps the invariant (R211, R212). -/
theorem consistent_endRender {s : State} (hs : Consistent s) (hb : s.drv ≠ .off) (r : CmdResult) (info : Word32) :
    Consistent (s.endRender r info) :=
  ⟨nofun, fun _ => hs.opened hb, fun _ => ⟨rfl, rfl⟩, nofun, nofun, nofun, hs.mapped, bits_mem_legalResults r, hs.shown⟩

/-- A failed write keeps it: the wire has taken no further frame whole (R180, R216). -/
theorem consistent_logFail {s : State} (hs : Consistent s) (k : Kind) (w n : Nat) (b : List Byte) :
    Consistent (s.afterWrite.logWrite k w b (.fail n)) :=
  ⟨hs.off, hs.opened, hs.resting, hs.encoding, hs.transmitting, hs.blocked, hs.mapped, hs.resultLegal,
    hs.shown.trans (lastSent_append_fail s.wire k _).symm⟩

/-- A whole write and the commit of its bytes keep it (R180, R216). -/
theorem consistent_commit {s : State} (hs : Consistent s) (k : Kind) (w : Nat) (p : Strip) (b : List Byte) :
    Consistent ((s.afterWrite.logWrite k w b .ok).commit p b) :=
  ⟨hs.off, hs.opened, hs.resting, hs.encoding, hs.transmitting, hs.blocked, hs.mapped, hs.resultLegal,
    (lastSent_append_ok s.wire k b).symm⟩

/-- The fill of a frame that fits keeps it (R177, R211). -/
theorem consistent_startTransmit {s : State} {c : ConfigRecord} {k : Kind} {p : Pending} {f : Frame} {m m' : Memory}
    (hs : Consistent s) (hd : s.drv = .encoding) (hc : Configured s c k) (hp : s.pending = some p)
    (hf : renderFrame c p.strip = some f) (hl : (bytesOf k c f).length ≤ c.capacity.toNat) (hm : s.txbuf = some m)
    (hfill : m.fill 0 (bytesOf k c f) = some m') :
    Consistent (s.startTransmit p ⟨f, bytesOf k c f, (bytesOf k c f).length⟩ m') := by
  obtain ⟨hsize, hbyte, hwf⟩ := Memory.fill_spec hfill
  obtain ⟨c₁, p₁, hc₁, hp₁, hlen, hthread⟩ := hs.encoding hd
  obtain rfl : c = c₁ := Option.some.inj (hc.1.symm.trans hc₁)
  obtain rfl : p = _ := Option.some.inj (hp.symm.trans hp₁)
  refine ⟨nofun, fun _ => ?_, nofun, nofun, fun _ => ?_, hs.blocked, hs.mapped, hs.resultLegal, hs.shown⟩
  · obtain ⟨c₂, k₂, m₂, hc₂, hlegal, hh, hm₂, hsize₂, hwf₂, hwarn⟩ := hs.opened (by simp [hd])
    obtain rfl : m = m₂ := Option.some.inj (hm.symm.trans hm₂)
    exact ⟨c₂, k₂, m', hc₂, hlegal, hh, rfl, hsize.trans hsize₂, hwf hwf₂, hwarn⟩
  · refine ⟨c, k, p₁, f, hc, hf, rfl, hlen, hl, fun j hj => ?_, hthread⟩
    exact (hbyte j).trans (by simp [hj])

/-- A stage of a render keeps the invariant. -/
theorem transmitStage_consistent {k : Kind} {s t : State} (h : transmitStage k s = .next t) (hs : Consistent s) :
    Consistent t := by
  obtain ⟨c, hc, hk, ⟨hd, h⟩ | ⟨hd, h⟩⟩ := transmitStage_next h
  · have hopen : s.drv ≠ .off := by simp [hd]
    obtain ⟨p, hp, ⟨_, rfl⟩ | ⟨f, hf, ⟨_, rfl⟩ | ⟨ho, m, m', hm, hfill, rfl⟩⟩⟩ := encodingStage_next h
    · exact consistent_endRender hs hopen _ _
    · exact consistent_endRender hs hopen _ _
    · exact consistent_startTransmit hs hd ⟨hc, hk⟩ hp hf (overflows_eq_false.1 ho) hm hfill
  · have hopen : s.drv ≠ .off := by simp [hd]
    obtain ⟨p, e, b, hp, he, hr, rfl⟩ := transmittingStage_next h
    obtain rfl := readFrame_eq_bytes hs hd hp he hr
    rw [sendFrame_eq]
    cases boundedAnswer _ _ with
    | ok => exact consistent_endRender (consistent_commit hs k _ p.strip e.bytes) hopen _ _
    | fail n => exact consistent_endRender (consistent_logFail hs k _ n e.bytes) hopen _ _

/-! ## Steps -/

/-- Settles O31: a step is a stage of the render, a command of a free thread, or a host event, and each keeps the
invariant. -/
theorem everyStepKeepsTheInvariant : Obligations.EveryStepKeepsTheInvariant := by
  intro s t hs h
  obtain ⟨i, u, hn, he⟩ | hn := step_next h
  · obtain ⟨hu, _, k, _, rfl⟩ | ⟨th, w, rest, _, hhung, hw, rfl, rfl⟩ := nextTurn_run hn
    · have hus : Consistent u := by
        obtain rfl | rfl := hu
        · exact hs
        · exact (HostOnly.popAgenda s).consistent hs
      exact transmitStage_consistent (exec_stageInstr k u ▸ he) hus
    · have hus : Consistent (s.acceptFrom th) := consistent_acceptFrom hs th
      have hth : s.renderThread ≠ some th := renderThread_ne_of_not_waits hs hw
      have hi := decode_ne_stageInstr w
      exact (exec_commandEffect hi he).consistent hus hhung hth ((exec_testReg hi he).ok hus)
  · exact (nextTurn_hostOnly hn).consistent hs

end Sys2Proof.Machine
end

section
/-! PROOFS. Progress: from a state that meets the invariant every command, every stage and every step answers a next
state (R246). -/

namespace Sys2Proof.Machine

open Safety

/-! ## The kind of the configuration -/

/-- The kind of a state is that of the record it has loaded (R89). -/
theorem cfgKind_eq_some_iff {s : State} {k : Kind} : cfgKind s.cfg = some k ↔ ∃ c, Configured s c k :=
  Option.bind_eq_some_iff

/-! ## Commands -/

/-- A command answers in flight with the concurrency fault, so it answers if it does at rest. -/
theorem whenFree_answers {s : State} {r : Outcome} (h : s.busy = false → ∃ t, s.whenFree r = .next t) :
    ∃ t, s.whenFree r = .next t := by
  cases hb : s.busy with
  | true => exact ⟨_, whenFree_busy hb⟩
  | false => exact h hb

/-- A test-mode command answers in OFF with ILLEGAL_STATE, so it answers if it does in IDLE. -/
theorem testMode_answers {s : State} {i : Instr} {r : Outcome} (h : s.drv = .idle → ∃ t, s.testMode i r = .next t) :
    ∃ t, s.testMode i r = .next t := by
  refine whenFree_answers fun hb => ?_
  obtain hd | hd := busy_eq_false.1 hb
  · exact ⟨_, testMode_of_off hd i r⟩
  · exact h hd

/-- INIT answers in every state (R203, R205, R206). -/
theorem execInit_answers (s : State) : ∃ t, execInit s = .next t := by
  refine whenFree_answers fun hb => ?_
  obtain hd | hd := busy_eq_false.1 hb
  · cases hv : checkConfig s.pinOk s.configPort with
    | bad sub n => exact ⟨_, execInit_of_bad hd hv⟩
    | legal k =>
      have opening : ∃ t, claimAndOpen s.afterClaim s.claimedElsewhere k s.configPort = .next t := by
        cases s.claimedElsewhere <;> exact ⟨_, rfl⟩
      exact opening.imp fun t ht => (execInit_of_legal hd hv).trans ht
  · exact ⟨_, execInit_of_idle hd⟩

/-- RENDER's issue step answers under the invariant (R210). -/
theorem execRender_answers {s : State} (hs : Consistent s) : ∃ t, execRender s = .next t := by
  refine whenFree_answers fun hb => ?_
  obtain hd | hd := busy_eq_false.1 hb
  · exact ⟨_, (whenFree_of_off hd _).trans (if_pos hd)⟩
  · obtain ⟨c, k, hc, _⟩ := exists_configured hs (by simp [hd])
    by_cases hl : s.pixelPort.length = c.ledCount.toNat
    · exact ⟨_, (execRender_of_idle hd hc).trans (if_pos hl)⟩
    · exact ⟨_, (execRender_of_idle hd hc).trans (if_neg hl)⟩

/-- T_SERIALIZE answers under the invariant (R135, R137). -/
theorem execTSerialize_answers {s : State} (hs : Consistent s) : ∃ t, execTSerialize s = .next t := by
  refine testMode_answers fun hd => ?_
  obtain ⟨c, k, hc, _⟩ := exists_configured hs (by simp [hd])
  obtain ⟨f, hf⟩ := serializeNeverFailsInTheBlock s c s.pixelPort hs hc
  exact ⟨_, execTSerialize_of_idle hd hc hf⟩

/-- T_INVERT answers in every state (R153). -/
theorem execTInvert_answers (inv : Bool) (s : State) : ∃ t, execTInvert inv s = .next t := by
  refine testMode_answers fun hd => ?_
  by_cases hf : ∃ f, s.testReg = .syms f
  · obtain ⟨f, hf⟩ := hf
    exact ⟨_, execTInvert_of_syms hd hf inv⟩
  · exact ⟨_, execTInvert_of_no_syms hd (not_exists.1 hf) inv⟩

/-- T_MAP answers under the invariant (R185). -/
theorem execTMap_answers {s : State} (hs : Consistent s) : ∃ t, execTMap s = .next t := by
  refine testMode_answers fun hd => ?_
  by_cases hf : ∃ f, s.testReg = .syms f
  · obtain ⟨f, hf⟩ := hf
    obtain ⟨c, k, hc⟩ := exists_configured hs (by simp [hd])
    by_cases hfit : (bytesOf k c f).length ≤ c.capacity.toNat
    · exact ⟨_, (execTMap_of_syms hd hc hf).trans (mapSymbols_of_fits hfit s)⟩
    · exact ⟨_, (execTMap_of_syms hd hc hf).trans (mapSymbols_of_overflow (not_le.1 hfit) s)⟩
  · exact ⟨_, execTMap_of_no_syms hd (not_exists.1 hf)⟩

/-- Every command that a word selects answers under the invariant. -/
theorem exec_answers {i : Instr} {s : State} (hi : ∀ k, i ≠ stageInstr k) (hs : Consistent s) :
    ∃ t, exec i s = .next t := by
  cases i with
  | transmitSpi => exact absurd rfl (hi .spi)
  | transmitPwm => exact absurd rfl (hi .pwm)
  | transmitPcm => exact absurd rfl (hi .pcm)
  | nop | illegal => exact whenFree_answers fun hb => ⟨_, whenFree_free hb⟩
  | init => exact execInit_answers s
  | render => exact execRender_answers hs
  | shutdown =>
    refine whenFree_answers fun hb => ?_
    obtain hd | hd := busy_eq_false.1 hb
    · exact ⟨_, (whenFree_of_off hd _).trans (if_pos hd)⟩
    · exact ⟨_, (whenFree_of_idle hd _).trans (if_neg (by simp [hd]))⟩
  | tEncode v bo => exact testMode_answers fun hd => ⟨_, testMode_of_idle hd _ _⟩
  | tSerialize => exact execTSerialize_answers hs
  | tInvert inv => exact execTInvert_answers inv s
  | tMap => exact execTMap_answers hs

/-! ## Stages -/

/-- The Encoding stage answers under the invariant: the frame overflows, or TXBUF has room for it (R211). -/
theorem encodingStage_answers {s : State} {c : ConfigRecord} (k : Kind) (hs : Consistent s) (hd : s.drv = .encoding)
    (hc : s.cfg = some c) : ∃ t, encodingStage k c s = .next t := by
  obtain ⟨_, p, _, hp, _⟩ := hs.encoding hd
  obtain ⟨f, hf⟩ := Option.ne_none_iff_exists'.1 (renderFrame_ne_none_of_consistent hs hc p)
  obtain ⟨c', _, m, hc', _, _, hm, hsize, _⟩ := hs.opened (by simp [hd])
  obtain rfl : c = c' := Option.some.inj (hc.symm.trans hc')
  by_cases hfit : (bytesOf k c f).length ≤ c.capacity.toNat
  · obtain ⟨m', hfill⟩ := Memory.fill_inside (m := m) (i := 0) (bs := bytesOf k c f) (by omega)
    exact ⟨_, encodingStage_of_fits hp hf hm hfit hfill⟩
  · exact ⟨_, encodingStage_of_overflow k hp hf (not_le.1 hfit)⟩

/-- The Transmitting stage answers under the invariant: TXBUF holds the pending bytes (R60, R212). -/
theorem transmittingStage_answers {s : State} (k : Kind) (c : ConfigRecord) (hs : Consistent s)
    (hd : s.drv = .transmitting) : ∃ t, transmittingStage k c s = .next t := by
  obtain ⟨c', k', p, f, _, _, hp, _, _, hbytes, _⟩ := hs.transmitting hd
  obtain ⟨_, _, m, _, _, _, hm, _⟩ := hs.opened (by simp [hd])
  have stored := (readFrame_eq_ok s ⟨f, bytesOf k' c' f, (bytesOf k' c' f).length⟩ _).2 ⟨⟨m, hm⟩, rfl, hbytes⟩
  exact ⟨_, transmittingStage_of_stored hp rfl stored⟩

/-- The stage of CFG.KIND answers while a render is in flight. -/
theorem exec_stageInstr_answers {s : State} {k : Kind} (hs : Consistent s) (hb : s.busy = true)
    (hk : cfgKind s.cfg = some k) : ∃ t, exec (stageInstr k) s = .next t := by
  obtain ⟨c, hc⟩ := cfgKind_eq_some_iff.1 hk
  obtain hd | hd := busy_eq_true.1 hb
  · rw [exec_stage_of_encoding (isStage_stageInstr k) hd hc]
    exact encodingStage_answers k hs hd hc.1
  · rw [exec_stage_of_transmitting (isStage_stageInstr k) hd hc]
    exact transmittingStage_answers k c hs hd

/-! ## Steps -/

/-- The driver never stops: in flight there is a configuration, and its kind has a stage (R23). -/
theorem driverTurn_ne_stop {s : State} (hs : Consistent s) (r : Fault) : driverTurn s ≠ .stop r := by
  unfold driverTurn
  split
  next hb =>
    have hd : s.drv ≠ .off := fun hd => by simp [State.busy, hd] at hb
    obtain ⟨c, k, hc⟩ := exists_configured hs hd
    rw [cfgKind_eq_some_iff.2 ⟨c, hc⟩]
    nofun
  next => nofun

/-- No turn stops under the invariant. -/
theorem nextTurn_ne_stop {s : State} (hs : Consistent s) (r : Fault) : nextTurn s ≠ .stop r := by
  unfold nextTurn
  split
  next => exact driverTurn_ne_stop hs r
  next th a _ _ =>
    by_cases hh : th ∈ s.hung
    · simp [threadTurn_hung hh]
    · cases hw : s.waits th with
      | true => exact threadTurn_waits hh hw ▸ driverTurn_ne_stop hs r
      | false =>
        rw [threadTurn_free hh hw]
        cases a <;> nofun
  next => exact driverTurn_ne_stop ((HostOnly.popAgenda s).consistent hs) r

/-- Settles O33: no turn stops, and what a turn runs answers. -/
theorem theMachineNeverStops : Obligations.TheMachineNeverStops := by
  intro s hs
  unfold step
  cases hn : nextTurn s with
  | stop r => exact absurd hn (nextTurn_ne_stop hs r)
  | host t => exact ⟨t, rfl⟩
  | run i u =>
    obtain ⟨rfl | rfl, hb, k, hk, rfl⟩ | ⟨th, w, rest, _, _, _, rfl, rfl⟩ := nextTurn_run hn
    · exact exec_stageInstr_answers hs hb hk
    · exact exec_stageInstr_answers ((HostOnly.popAgenda s).consistent hs) hb hk
    · exact exec_answers (decode_ne_stageInstr w) (consistent_acceptFrom hs th)

end Sys2Proof.Machine
end

section
/-! PROOFS. What is left alone: the frames of INIT, RENDER and SHUTDOWN and of the stages of a render, the configuration
between INIT and SHUTDOWN (R23), and WIRE outside the physical write (R36, R180). -/

namespace Sys2Proof.Machine

open Safety

/-! ## INIT, RENDER and SHUTDOWN -/

/-- Settles O29: each way the three commands can end leaves what the frame lists, and the one new buffer, of an INIT
that opens the driver, is empty. -/
theorem driverCommandsSendAndStoreNothing : Obligations.DriverCommandsSendAndStoreNothing := by
  intro i s t hi h
  obtain rfl | rfl | rfl := hi
  · obtain ⟨hb, rfl⟩ | ⟨_, rfl⟩ | ⟨_, _, _, _, rfl⟩ | ⟨_, _, _, _, rfl⟩ | ⟨_, k, _, _, rfl⟩ := execInit_next h
    · simp [not_ready_of_busy hb]
    case inr.inr.inr.inr => simp [State.bufferByte, Memory.byte, lookupCell]
    all_goals simp
  · obtain ⟨hb, rfl⟩ | ⟨_, rfl⟩ | ⟨_, _, _, _, rfl⟩ | ⟨_, _, _, _, rfl⟩ := execRender_next h
    · simp [not_ready_of_busy hb, State.bufferByte]
    all_goals simp [State.bufferByte]
  · obtain ⟨hb, rfl⟩ | ⟨hd, rfl⟩ | ⟨_, rfl⟩ := execShutdown_next h
    · simp [not_ready_of_busy hb, drv_ne_idle_of_busy hb]
    · simp [hd]
    · simp

/-! ## The stages of a render -/

/-- What every stage leaves alone, whatever its outcome. -/
theorem StageEffect.frame {k : Kind} {s t : State} (h : StageEffect k s t) :
    t.cfg = s.cfg ∧ t.handle = s.handle ∧ t.warnCap = s.warnCap ∧ t.testReg = s.testReg ∧
    t.faultConcurrent = s.faultConcurrent ∧ t.refused = s.refused ∧ t.configPort = s.configPort ∧
    t.pixelPort = s.pixelPort ∧ t.pinTable = s.pinTable ∧ t.claimAnswer = s.claimAnswer ∧ t.agenda = s.agenda ∧
    t.issuer = s.issuer ∧ t.hung = s.hung ∧ t.lastRead = s.lastRead := by
  cases h <;> exact ⟨rfl, rfl, rfl, rfl, rfl, rfl, rfl, rfl, rfl, rfl, rfl, rfl, rfl, rfl⟩

/-- The Encoding stage sends and commits nothing, and takes no draw. -/
theorem StageEffect.encoding_frame {k : Kind} {s t : State} (h : StageEffect k s t) (hd : s.drv = .encoding) :
    t.wire = s.wire ∧ t.lastGood = s.lastGood ∧ t.writeAnswer = s.writeAnswer ∧ t.draws = s.draws := by
  cases h with
  | rejects | overflows | fills => exact ⟨rfl, rfl, rfl, rfl⟩
  | commits | fails => simp_all

/-- The Transmitting stage stores nothing. -/
theorem StageEffect.transmitting_txbuf {k : Kind} {s t : State} (h : StageEffect k s t) (hd : s.drv = .transmitting) :
    t.txbuf = s.txbuf := by
  cases h with
  | rejects | overflows | fills => simp_all
  | commits | fails => rfl

/-- The Encoding stage stores the frame's bytes at the front of TXBUF and nothing else, and nothing at all where the
frame overflows (R176, R177, R211). -/
theorem encodingStage_stores {k : Kind} {c : ConfigRecord} {s t : State} {p : Pending} {f : Frame}
    (h : encodingStage k c s = .next t) (hp : s.pending = some p) (hf : renderFrame c p.strip = some f) :
    (c.capacity.toNat < (bytesOf k c f).length → t.txbuf = s.txbuf) ∧
    ∀ a, (bytesOf k c f).length ≤ a → t.bufferByte a = s.bufferByte a := by
  obtain ⟨p', hp', hcases⟩ := encodingStage_next h
  obtain rfl : p = p' := Option.some.inj (hp.symm.trans hp')
  obtain ⟨hnone, _⟩ | ⟨f', hf', hcases⟩ := hcases
  · simp [hf] at hnone
  · obtain rfl : f = f' := Option.some.inj (hf.symm.trans hf')
    obtain ⟨_, rfl⟩ | ⟨ho, m, m', hm, hfill, rfl⟩ := hcases
    · exact ⟨fun _ => rfl, fun _ _ => rfl⟩
    · obtain ⟨_, hbyte, _⟩ := Memory.fill_spec hfill
      refine ⟨fun hover => absurd (overflows_eq_false.1 ho) (not_le.2 hover), fun a ha => ?_⟩
      simp [State.bufferByte, hm, hbyte, not_lt.2 ha]

/-- Settles O30: the frame of every stage, and what each of the two stages stores. -/
theorem stagesStoreOnlyThePendingFrame : Obligations.StagesStoreOnlyThePendingFrame := by
  intro k i s t c hi hc h
  obtain rfl := eq_stageInstr_of_isStage hi
  rw [exec_stageInstr] at h
  have he := transmitStage_stageEffect h
  obtain ⟨cfg, handle, warn, test, fault, refused, config, pixels, pins, claim, agenda, issuer, hung, read⟩ := he.frame
  refine ⟨cfg, handle, warn, test, fault, refused, config, pixels, pins, claim, agenda, issuer, hung, read,
    he.encoding_frame, fun hd a => ?_, fun p f hd hp hf => ?_⟩
  · simp [State.bufferByte, he.transmitting_txbuf hd]
  · obtain ⟨c', hc', _, ⟨_, h⟩ | ⟨hd', _⟩⟩ := transmitStage_next h
    · obtain rfl : c = c' := Option.some.inj (hc.symm.trans hc')
      exact encodingStage_stores h hp hf
    · simp [hd] at hd'

/-! ## The configuration -/

/-- The moves of CFG that a command makes (R23). -/
theorem CommandEffect.cfg_moves {i : Instr} {s t : State} (h : CommandEffect i s t) :
    t.cfg = s.cfg ∨
    (i = .init ∧ s.drv = .off ∧ t.cfg = some s.configPort ∧ ∃ k, checkConfig s.pinOk s.configPort = .legal k) ∨
    (i = .shutdown ∧ s.drv = .idle ∧ t.cfg = none) := by
  cases h with
  | concurrent | completes | starts | refuses => exact .inl rfl
  | opens k hi hd hv => exact .inr (.inl ⟨hi, hd, rfl, k, hv⟩)
  | closes hi hd => exact .inr (.inr ⟨hi, hd, rfl⟩)

/-- Settles O35: a command moves CFG as `CommandEffect.cfg_moves` says, a stage and a host event leave it. -/
theorem configurationIsFixedUntilShutdown : Obligations.ConfigurationIsFixedUntilShutdown := by
  intro s t h hne
  obtain ⟨th, w, rest, _, hn, he⟩ | ⟨k, ag, _, _, he⟩ | ⟨_, _, _, _, _, _, _, rfl⟩ := step_cases h
  · exact ⟨_, _, hn, he.cfg_moves.resolve_left hne⟩
  · obtain ⟨hkept, _⟩ := he.frame
    exact absurd hkept hne
  · exact absurd rfl hne

/-! ## WIRE -/

/-- No command touches WIRE. -/
theorem CommandEffect.wire_eq {i : Instr} {s t : State} (h : CommandEffect i s t) : t.wire = s.wire := by
  cases h <;> rfl

/-- What follows a physical write leaves WIRE. -/
@[simp] theorem afterAnswer_wire (s : State) (p : Strip) (b : List Byte) (a : PhysAnswer) :
    (afterAnswer s p b a).wire = s.wire := by cases a <;> rfl

/-- What a physical write puts on the line is the beginning of its bytes, all of them when the answer is ok (R180). -/
theorem sentBytes_isPrefix (w : Nat) (b : List Byte) (a : PhysAnswer) :
    sentBytes w b a <+: b ∧ (wireOutcome a = .ok → sentBytes w b a = b) := by
  cases a with
  | ok => exact ⟨List.prefix_rfl, fun _ => rfl⟩
  | fail n => exact ⟨List.take_prefix _ b, nofun⟩

/-- Under the invariant a stage leaves WIRE, or appends one entry of its kind: the pending bytes, or their beginning. -/
theorem transmitStage_wire {k : Kind} {s t : State} (h : transmitStage k s = .next t) (hs : Consistent s) :
    t.wire = s.wire ∨ ∃ p e en, s.drv = .transmitting ∧ s.pending = some { strip := p, encoded := some e } ∧
      t.wire = s.wire ++ [en] ∧ en.kind = k ∧ en.sent <+: e.bytes ∧ (en.outcome = .ok → en.sent = e.bytes) := by
  have hframe := (transmitStage_stageEffect h).encoding_frame
  obtain ⟨c, _, _, ⟨hd, _⟩ | ⟨hd, h⟩⟩ := transmitStage_next h
  · obtain ⟨hkept, _⟩ := hframe hd
    exact .inl hkept
  · obtain ⟨⟨p, _⟩, e, b, hp, rfl, hr, rfl⟩ := transmittingStage_next h
    obtain rfl := readFrame_eq_bytes hs hd hp rfl hr
    have sent := sentBytes_isPrefix (unitWidth k c) e.bytes (s.physOutcome (e.bytes.length / unitWidth k c))
    exact .inr ⟨p, e, _, hd, hp, afterAnswer_wire _ _ _ _, rfl, sent⟩

/-- Settles O39: a command and a host event leave WIRE, the stage of CFG.KIND moves it as `transmitStage_wire` says. -/
theorem wireOnlyGrowsByPhysicalWrites : Obligations.WireOnlyGrowsByPhysicalWrites := by
  refine ⟨rfl, fun s t hs h => ?_⟩
  obtain ⟨i, u, hn, he⟩ | hn := step_next h
  · obtain ⟨hu, _, k, hk, rfl⟩ | ⟨th, w, _, _, _, _, rfl, rfl⟩ := nextTurn_run hn
    · have kept : Consistent u ∧ u.wire = s.wire ∧ u.drv = s.drv ∧ u.pending = s.pending := by
        obtain rfl | rfl := hu
        · exact ⟨hs, rfl, rfl, rfl⟩
        · exact ⟨(HostOnly.popAgenda s).consistent hs, rfl, rfl, rfl⟩
      obtain ⟨hus, hwire, hdrv, hpend⟩ := kept
      rw [← hwire, ← hdrv, ← hpend]
      refine (transmitStage_wire (exec_stageInstr k u ▸ he) hus).imp_right ?_
      rintro ⟨p, e, en, hd, hp, hgrow, hkind, hsent⟩
      exact ⟨p, e, k, en, hd, hp, hgrow, hkind, hk, hsent⟩
    · exact .inl (exec_commandEffect (decode_ne_stageInstr w) he).wire_eq
  · obtain ⟨_, _, _, _, _, _, rfl⟩ := nextTurn_hostOnly hn
    exact .inl rfl

end Sys2Proof.Machine
end

section
/-! PROOFS. What the outcome of a render depends on (R215): the end of its Encoding stage is a function of CFG and the
strip, so two machines that agree on these end alike, the capacity warning predicts the overflow (R204), and the
test-mode commands show the bytes (R137, R153, R185). -/

namespace Sys2Proof.Machine

open Safety

/-! ## The issue step and the two stages -/

/-- A RENDER in IDLE that leaves IDLE has taken the strip on the pixel port, of LED_COUNT pixels (R210). -/
theorem execRender_started {s u : State} (hd : s.drv = .idle) (h : exec .render s = .next u) (hu : u.drv ≠ .idle) :
    u = s.startRender s.pixelPort ∧ ∃ c, s.cfg = some c ∧ s.pixelPort.length = c.ledCount.toNat := by
  obtain ⟨_, rfl⟩ | ⟨_, rfl⟩ | ⟨_, c, hc, hl, rfl⟩ | ⟨_, _, _, _, rfl⟩ := execRender_next h
  case inr.inr.inl => exact ⟨rfl, c, hc, hl⟩
  all_goals simp [hd] at hu

/-- How the Encoding stage over kind `k` ends the render of a strip early, and with what ERR_INFO, if it does (R134,
R176, R211): a function of the configuration and the strip. -/
def encodingError (k : Kind) (c : ConfigRecord) (strip : Strip) : Option (CmdResult × Word32) :=
  match renderFrame c strip with
  | none => some (.configurationError .channelOrder, 0)
  | some f =>
    if overflows c (bytesOf k c f) then some (.bufferOverflow, overflowInfo (bytesOf k c f).length) else none

/-- What the Encoding stage over kind `k` adds to PENDING for a frame (R211). -/
def encodedOf (k : Kind) (c : ConfigRecord) (f : Frame) : Encoded := ⟨f, bytesOf k c f, (bytesOf k c f).length⟩

/-- After the issue step the row of a kind ends the render as `encodingError` says, or stores the frame of the strip. -/
theorem exec_stage_encoding_next {k : Kind} {i : Instr} {s t : State} {c : ConfigRecord} {p : Strip} (hi : IsStage k i)
    (hc : s.cfg = some c) (h : exec i (s.startRender p) = .next t) :
    kindOfCode c.kind = some k ∧
    ((∃ r info, encodingError k c p = some (r, info) ∧ t = (s.startRender p).endRender r info) ∨
     (encodingError k c p = none ∧ ∃ f m m', renderFrame c p = some f ∧ Memory.fill m 0 (bytesOf k c f) = some m' ∧
       t = (s.startRender p).startTransmit { strip := p, encoded := none } (encodedOf k c f) m')) := by
  obtain rfl := eq_stageInstr_of_isStage hi
  obtain ⟨c', hc', hk, ⟨_, h⟩ | ⟨hd, _⟩⟩ := transmitStage_next (exec_stageInstr k _ ▸ h)
  · obtain rfl : c = c' := Option.some.inj (hc.symm.trans hc')
    refine ⟨hk, ?_⟩
    obtain ⟨p', hp', hcases⟩ := encodingStage_next h
    obtain rfl : _ = p' := Option.some.inj hp'
    obtain ⟨hf, rfl⟩ | ⟨f, hf, ⟨ho, rfl⟩ | ⟨ho, m, m', _, hfill, rfl⟩⟩ := hcases
    · exact .inl ⟨_, _, by simp [encodingError, hf], rfl⟩
    · exact .inl ⟨_, _, by simp [encodingError, hf, ho], rfl⟩
    · exact .inr ⟨by simp [encodingError, hf, ho], f, m, m', hf, hfill, rfl⟩
  · cases hd

/-- The row of a kind answers only while a render is in flight (R86). -/
theorem busy_of_exec_stage {k : Kind} {i : Instr} {s t : State} (hi : IsStage k i) (h : exec i s = .next t) :
    s.busy = true := by
  obtain rfl := eq_stageInstr_of_isStage hi
  obtain ⟨_, _, _, ⟨hd, _⟩ | ⟨hd, _⟩⟩ := transmitStage_next (exec_stageInstr k s ▸ h) <;> simp [State.busy, hd]

/-- A frame that was stored is in TXBUF, byte by byte (R177). -/
theorem bufferByte_startTransmit {s : State} {p : Pending} {e : Encoded} {m m' : Memory}
    (hfill : m.fill 0 e.bytes = some m') {j : Nat} (hj : j < e.bytes.length) :
    (s.startTransmit p e m').bufferByte j = e.bytes[j]? := by
  obtain ⟨_, hbyte, _⟩ := Memory.fill_spec hfill
  exact (hbyte j).trans (by simp [hj])

/-- What was stored is what the physical write reads (R60). -/
theorem readFrame_startTransmit {s : State} {p : Pending} {e : Encoded} {m m' : Memory}
    (hfill : m.fill 0 e.bytes = some m') (hn : e.nbytes = e.bytes.length) :
    readFrame (s.startTransmit p e m') e = .ok e.bytes :=
  (readFrame_eq_ok _ _ _).2 ⟨⟨m', rfl⟩, hn.symm, fun _ hj => bufferByte_startTransmit hfill (hn ▸ hj)⟩

/-- The row of a kind in TRANSMITTING sends the pending bytes that TXBUF holds (R60, R212). -/
theorem exec_stage_transmitting_next {k : Kind} {i : Instr} {s t : State} {c : ConfigRecord} {p : Strip} {e : Encoded}
    (hi : IsStage k i) (h : exec i s = .next t) (hd : s.drv = .transmitting) (hc : Configured s c k)
    (hp : s.pending = some { strip := p, encoded := some e }) (hr : readFrame s e = .ok e.bytes) :
    t = sendFrame k c s p e e.bytes := by
  rw [exec_stage_of_transmitting hi hd hc, transmittingStage_of_stored hp rfl hr] at h
  exact (Host.Outcome.next.inj h).symm

/-! ## Two machines -/

/-- Two renders that found WIRE as in `s₁` and `s₂` show the same outcome in `t₁` and `t₂` (R215). -/
def SameOutcome (s₁ s₂ t₁ t₂ : State) : Prop :=
  t₁.result = t₂.result ∧ t₁.errInfo = t₂.errInfo ∧
  (∃ en, t₁.wire = s₁.wire ++ [en] ∧ t₂.wire = s₂.wire ++ [en]) ∧
  (t₁.result = 0x00 → t₁.lastGood = t₂.lastGood)

/-- The same bytes sent with the same answer show the same outcome (R180, R212). -/
theorem sendFrame_agrees {s₁ s₂ : State} (k : Kind) (c : ConfigRecord) (p : Strip) (e : Encoded) (b : List Byte)
    (ha : s₁.writeAnswer.getD (Config.physOutcome s₁.draws) = s₂.writeAnswer.getD (Config.physOutcome s₂.draws)) :
    SameOutcome s₁ s₂ (sendFrame k c s₁ p e b) (sendFrame k c s₂ p e b) := by
  rw [sendFrame_eq, sendFrame_eq, ha]
  cases boundedAnswer _ _ with
  | ok => exact ⟨rfl, rfl, ⟨_, rfl, rfl⟩, fun _ => rfl⟩
  | fail n => exact ⟨rfl, rfl, ⟨_, rfl, rfl⟩, nofun⟩

/-- Settles O43: both machines take the same strip, end its Encoding stage as `encodingError` says, and send the bytes
of the same frame. -/
theorem renderDependsOnlyOnConfigStripAndAnswer : Obligations.RenderDependsOnlyOnConfigStripAndAnswer := by
  intro k i s₁ s₂ u₁ u₂ v₁ v₂ t₁ t₂ hi hd₁ hd₂ hcfg hport ha hu₁ hu₂ henc hv₁ hv₂
  obtain ⟨rfl, c, hc₁, hl⟩ := execRender_started hd₁ hu₁ (by simp [henc])
  have hc₂ : s₂.cfg = some c := hcfg ▸ hc₁
  obtain rfl : s₂.startRender s₁.pixelPort = u₂ := by
    have started := (execRender_of_idle hd₂ hc₂).trans (if_pos (hport ▸ hl))
    rw [← hport] at started
    exact Host.Outcome.next.inj (started.symm.trans hu₂)
  obtain ⟨hk, hv₁⟩ := exec_stage_encoding_next hi hc₁ hv₁
  obtain ⟨_, hv₂⟩ := exec_stage_encoding_next hi hc₂ hv₂
  obtain ⟨r, info, herr, rfl⟩ | ⟨herr, f, m₁, m₁', hf, hfill₁, rfl⟩ := hv₁
  · obtain ⟨r', info', herr', rfl⟩ | ⟨herr', _⟩ := hv₂
    · obtain ⟨rfl, rfl⟩ : r = r' ∧ info = info' := by simpa using herr.symm.trans herr'
      exact ⟨⟨rfl, fun _ => ⟨rfl, rfl, rfl, rfl⟩⟩, nofun⟩
    · simp [herr] at herr'
  · obtain ⟨r', info', herr', rfl⟩ | ⟨_, f', m₂, m₂', hf', hfill₂, rfl⟩ := hv₂
    · simp [herr] at herr'
    · obtain rfl : f = f' := Option.some.inj (hf.symm.trans hf')
      refine ⟨⟨rfl, nofun⟩, fun _ ht₁ ht₂ => ?_⟩
      obtain rfl := exec_stage_transmitting_next hi ht₁ rfl ⟨hc₁, hk⟩ rfl (readFrame_startTransmit hfill₁ rfl)
      obtain rfl := exec_stage_transmitting_next hi ht₂ rfl ⟨hc₂, hk⟩ rfl (readFrame_startTransmit hfill₂ rfl)
      exact sendFrame_agrees k c s₁.pixelPort (encodedOf k c f) (bytesOf k c f) ha

/-! ## The capacity warning -/

/-- A legal PCM record has at most 16 samples a symbol (check 12 of R202). -/
theorem pcmSps_le_of_legal {pinOk : Kind → Word32 → Bool} {c : ConfigRecord} {k : Kind}
    (h : checkConfig pinOk c = .legal k) (hk : k = .pcm) : c.pcmSps.toNat ≤ 16 := by
  obtain ⟨legal_iff, _⟩ := configCheckReportsTheFirstFailure pinOk c
  obtain ⟨_, _, _, checks⟩ := (legal_iff k).1 h
  obtain ⟨_, hle⟩ := checks 12 (by simp [Applies, hk])
  exact hle

/-- Under a legal record the Encoding stage rejects a strip exactly where its frameBytes exceed CFG.CAPACITY (R175,
R176). -/
theorem encodingError_of_legal {pinOk : Kind → Word32 → Bool} {c : ConfigRecord} {k : Kind}
    (h : checkConfig pinOk c = .legal k) (strip : Strip) :
    encodingError k c strip = if c.capacity.toNat < frameBytes k c strip.length
      then some (.bufferOverflow, overflowInfo (frameBytes k c strip.length)) else none := by
  obtain ⟨f, hf⟩ := Option.ne_none_iff_exists'.1 (renderFrame_ne_none (perm_of_checkConfig_legal h) strip)
  obtain ⟨g, hg, rfl⟩ := Option.map_eq_some_iff.1 hf
  obtain ⟨hlen, _⟩ := frameBytesDependOnLengthOnly k c strip g c.invert (pcmSps_le_of_legal h) hg
  simp [encodingError, hf, overflows, hlen]

/-- Settles O44: the warning compares CFG.CAPACITY with frameBytes of LED_COUNT pixels, which is what the Encoding stage
turns on. -/
theorem capacityWarningPredictsTheOverflow : Obligations.CapacityWarningPredictsTheOverflow := by
  intro s u v k i hs hd hi hu henc hv
  obtain ⟨rfl, c, hc, hl⟩ := execRender_started hd hu (by simp [henc])
  obtain ⟨c', k', _, hc', hlegal, _, _, _, _, hwarn⟩ := hs.opened (by simp [hd])
  obtain rfl : c = c' := Option.some.inj (hc.symm.trans hc')
  obtain ⟨hk, hv⟩ := exec_stage_encoding_next hi hc hv
  obtain rfl : k = k' := Option.some.inj (hk.symm.trans (kindOfCode_of_checkConfig_legal hlegal))
  rw [encodingError_of_legal hlegal, hl] at hv
  rw [hwarn, decide_eq_true_iff]
  obtain ⟨r, info, herr, rfl⟩ | ⟨herr, _, _, _, _, _, rfl⟩ := hv
  · rw [Option.ite_none_right_eq_some, Option.some_inj, Prod.mk.injEq] at herr
    obtain ⟨hover, rfl, _⟩ := herr
    exact ⟨fun _ => ⟨rfl, rfl⟩, fun _ => hover⟩
  · simpa using herr

/-! ## The test path -/

/-- A T_SERIALIZE in IDLE that ends OK leaves the frame of the strip on the port in TEST_REG (R137). -/
theorem execTSerialize_ok {s t : State} {c : ConfigRecord} (h : execTSerialize s = .next t) (hr : t.result = 0x00)
    (hd : s.drv = .idle) (hc : s.cfg = some c) :
    ∃ f, serializeCfg c s.pixelPort = some f ∧ t = s.finishTest (.syms f) := by
  obtain ⟨hb, _⟩ | ⟨hoff, _⟩ | ⟨_, c', hc', hcases⟩ := execTSerialize_next h
  · exact absurd hd (drv_ne_idle_of_busy hb)
  · simp [hd] at hoff
  · obtain rfl : c = c' := Option.some.inj (hc.symm.trans hc')
    obtain ⟨_, rfl⟩ | hok := hcases
    · exact absurd hr (by rw [State.complete_result]; decide)
    · exact hok

/-- A T_MAP in IDLE on symbols that ends OK leaves their bytes in TEST_REG (R185). -/
theorem execTMap_ok {s t : State} {c : ConfigRecord} {k : Kind} {f : Frame} (h : execTMap s = .next t)
    (hr : t.result = 0x00) (hd : s.drv = .idle) (hc : Configured s c k) (hf : s.testReg = .syms f) :
    t.testReg = .units k (bytesOf k c f) := by
  rw [execTMap_of_syms hd hc hf] at h
  by_cases hfit : (bytesOf k c f).length ≤ c.capacity.toNat
  · rw [mapSymbols_of_fits hfit, Host.Outcome.next.injEq] at h
    rw [← h, State.finishTest_testReg]
  · rw [mapSymbols_of_overflow (not_le.1 hfit), Host.Outcome.next.injEq] at h
    exact absurd hr (h ▸ (by decide : ¬ (0x02 : Byte) = 0x00))

/-- Settles O45: both paths serialize the strip on the port, apply the inversion of CFG.INVERT and map the result. -/
theorem testCommandsReproduceTheRenderedBytes : Obligations.TestCommandsReproduceTheRenderedBytes := by
  intro s a b d u v c k i hd hc hi ha har hb hmap hdr hu hv htr
  obtain ⟨hcfg, hkind⟩ := hc
  obtain ⟨f, hf, rfl⟩ := execTSerialize_ok ha har hd hcfg
  have inverted := execTInvert_of_syms (s := s.finishTest (.syms f)) hd rfl c.invert
  obtain rfl := Host.Outcome.next.inj (inverted.symm.trans hb)
  have shown := execTMap_ok (c := c) (k := k) hmap hdr hd ⟨hcfg, hkind⟩ rfl
  obtain ⟨rfl, _⟩ := execRender_started hd hu (drv_ne_idle_of_busy (busy_of_exec_stage hi hv))
  obtain ⟨_, ⟨_, _, _, rfl⟩ | ⟨_, g, m, m', hg, hfill, rfl⟩⟩ := exec_stage_encoding_next hi hcfg hv
  · simp at htr
  · obtain rfl : applyInversion f c.invert = g := by simpa [renderFrame, hf] using hg
    exact ⟨s.pixelPort, _, rfl, rfl, shown, fun j hj => bufferByte_startTransmit hfill hj⟩

end Sys2Proof.Machine
end

section
/-! PROOFS. What the next step is: published words and reset, a TRANSMIT row outside its stage (R86), the threads that
are blocked and those that act (R72, R200, R201), the driver's own step (R231, R270), and the loads of the ports (R69,
R70). -/

namespace Sys2Proof.Machine

open Safety

/-- Settles O1: each word by the rows of R85. -/
theorem publishedWordsDecodeAsWritten : Obligations.PublishedWordsDecodeAsWritten := by
  unfold Obligations.PublishedWordsDecodeAsWritten
  decide

/-- Settles O27: reset by its fields, and STATUS from them. -/
theorem resetLeavesTheStatedValues : Obligations.ResetLeavesTheStatedValues :=
  ⟨rfl, rfl, rfl, rfl, rfl, rfl, rfl, rfl, rfl, rfl, rfl, rfl, rfl, rfl⟩

/-! ## TRANSMIT rows outside a stage -/

/-- The row of a kind is refused in OFF and IDLE (R86; log entry 13). -/
theorem transmitStage_of_ready {s : State} (hr : Ready s) (k : Kind) :
    transmitStage k s = .refused .stageNotEnabled := by
  unfold transmitStage
  cases s.cfg with
  | none => simp [ready_iff_not_busy.1 hr]
  | some c =>
    obtain hd | hd := hr
    · simp [hd]
    · simp [hd]

/-- The row of a kind is refused under a configuration of another kind (R86; log entry 13). -/
theorem transmitStage_of_other_kind {s : State} {c : ConfigRecord} {k : Kind} (hc : s.cfg = some c)
    (hk : kindOfCode c.kind ≠ some k) : transmitStage k s = .refused .stageNotEnabled := by
  simp [transmitStage, hc, hk]

/-- Settles O17: the row in OFF and IDLE, and under another kind. -/
theorem transmitRowsRunOnlyAsStages : Obligations.TransmitRowsRunOnlyAsStages := by
  intro s k i hi h
  rw [eq_stageInstr_of_isStage hi, exec_stageInstr]
  obtain hr | ⟨c, hc, hk⟩ := h
  · exact transmitStage_of_ready hr k
  · exact transmitStage_of_other_kind hc hk

/-! ## The driver's own step -/

/-- Using up the first event leaves the others. -/
theorem popAgenda_eq {s : State} {e : HostEvent} {rest : List HostEvent} (hag : s.agenda = e :: rest) :
    s.popAgenda = { s with agenda := rest } := by
  rw [State.popAgenda, hag, List.tail_cons]

/-- Accepting a word uses up its event and notes its thread. -/
theorem acceptFrom_eq {s : State} {e : HostEvent} {rest : List HostEvent} (hag : s.agenda = e :: rest) (t : Nat) :
    s.acceptFrom t = { s with agenda := rest, issuer := t } := by
  rw [State.acceptFrom, hag, List.tail_cons]

/-- In flight the driver's turn is the stage of CFG.KIND (R200, R231). -/
theorem driverTurn_of_inFlight {s : State} {c : ConfigRecord} {k : Kind} (hf : InFlight s) (hc : Configured s c k) :
    driverTurn s = .run (stageInstr k) s := by
  simp [driverTurn, inFlight_iff_busy.1 hf, cfgKind_eq_some_iff.2 ⟨c, hc⟩]

/-- In OFF and IDLE the driver's turn does nothing (R270). -/
theorem driverTurn_of_ready {s : State} (hr : Ready s) : driverTurn s = .host s := by
  simp [driverTurn, ready_iff_not_busy.1 hr]

/-- With no event left the turn is the driver's. -/
theorem nextTurn_of_nil {s : State} (hag : s.agenda = []) : nextTurn s = driverTurn s := by
  simp [nextTurn, hag]

/-- A driver event gives the turn to the driver. -/
theorem nextTurn_of_driver {s : State} {rest : List HostEvent} (hag : s.agenda = .driver :: rest) :
    nextTurn s = driverTurn { s with agenda := rest } := by
  rw [← popAgenda_eq hag]
  simp [nextTurn, hag]

/-- Settles O22: the turn is the driver's, and in flight that is the stage. -/
theorem stepRunsTheStageInFlight : Obligations.StepRunsTheStageInFlight := by
  intro s c k i hi hf hc
  obtain rfl := eq_stageInstr_of_isStage hi
  refine ⟨fun hag => ?_, fun rest hag => ?_⟩
  · rw [step, nextTurn_of_nil hag, driverTurn_of_inFlight hf hc]
  · have turn : driverTurn { s with agenda := rest } = .run (stageInstr k) { s with agenda := rest } :=
      driverTurn_of_inFlight hf hc
    rw [step, nextTurn_of_driver hag, turn]

/-- Settles O23: the turn is the driver's, and at rest that is none. -/
theorem theBlockWaitsForACommand : Obligations.TheBlockWaitsForACommand := by
  intro s hr
  refine ⟨fun hag => ?_, fun rest hag => ?_⟩
  · rw [step, nextTurn_of_nil hag, driverTurn_of_ready hr]
  · have turn : driverTurn { s with agenda := rest } = .host { s with agenda := rest } := driverTurn_of_ready hr
    rw [step, nextTurn_of_driver hag, turn]

/-! ## Threads that act -/

/-- Settles O20: a free thread acts, and its act is the word it issues. -/
theorem stepRunsTheIssuedCommand : Obligations.StepRunsTheIssuedCommand := by
  intro s t w rest hag hfree
  rw [step, nextTurn_of_free hfree hag, actTurn, acceptFrom_eq hag]

/-- The free thread is greater than every thread that is blocked. -/
theorem free_freeThread (s : State) : Free s s.freeThread := by
  refine ⟨fun hmem => ?_, fun _ hthread => ?_⟩
  · have hle := List.le_max_of_le' 0 hmem le_rfl
    unfold State.freeThread at hle
    omega
  · have heq : s.renderThread.getD 0 = s.freeThread := by rw [hthread, Option.getD_some]
    unfold State.freeThread at heq
    omega

/-- Settles O21: the placed word is issued by a free thread. -/
theorem placedWordRunsNext : Obligations.PlacedWordRunsNext := by
  intro s w
  have hfree : Free (s.withCommand w) s.freeThread := free_freeThread s
  refine ⟨s.freeThread, free_freeThread s, ?_⟩
  rw [State.withFetchWord, BitVec.ofNat_toNat, BitVec.setWidth_eq]
  exact stepRunsTheIssuedCommand (s.withCommand w) s.freeThread w s.agenda rfl hfree

/-- Settles O25: the act of a free thread changes what it loads; what a byte-wide port carries is
`bytePortHoldsPixelsInFixedOrder`. -/
theorem hostLoadsChangeOnlyTheirPort : Obligations.HostLoadsChangeOnlyTheirPort := by
  obtain ⟨_, carries, _, brokenPixels⟩ := bytePortHoldsPixelsInFixedOrder
  intro s t rest hfree
  refine ⟨fun r hag => ?_, fun p hag => ?_, fun p hag => ?_, fun b hag hb => ?_, fun b hag => ?_, fun a hag => ?_⟩
  all_goals rw [step, nextTurn_of_free hfree hag, actTurn, popAgenda_eq hag]
  · simp [carries p]
  · simp [brokenPixels b hb]

/-! ## Threads that are blocked -/

/-- A stage leaves the agenda; it keeps the thread of the render while the render goes on, and otherwise completes the
render for it (R200, R211, R212). -/
theorem StageEffect.thread {k : Kind} {s u : State} {t : Nat} (h : StageEffect k s u) (ht : s.renderThread = some t) :
    u.agenda = s.agenda ∧ (u.drv = .transmitting → u.renderThread = some t) ∧
    (u.drv ≠ .transmitting → u.renderThread = none ∧ u.completions = s.completions ++ [⟨t, u.result, u.errInfo⟩]) := by
  cases h with
  | fills => exact ⟨rfl, fun _ => ht, fun hne => absurd rfl hne⟩
  | rejects | overflows | commits | fails => exact ⟨rfl, nofun, fun _ => ⟨rfl, by simp [ht]⟩⟩

/-- Settles O19: RENDER by the length of its strip, and the turns of the thread of the render in flight, of a thread
that issues while it is in flight, and of a thread that is blocked for good. -/
theorem blockedThreadsIssueNothing : Obligations.BlockedThreadsIssueNothing := by
  refine ⟨fun s c hd hc hl => ?_, fun s c k i t a rest hi hf hc hag hh ht => ?_, fun s u k i t hi ht h => ?_,
    fun s c hd hc hl => ?_, fun s t w rest hf hag hfree => ?_, fun s t a rest hag hh => ?_⟩
  · exact ⟨_, (execRender_of_idle hd hc).trans (if_pos hl), rfl, rfl⟩
  · obtain rfl := eq_stageInstr_of_isStage hi
    have hw : s.waits t = true := by simp [State.waits, inFlight_iff_busy.1 hf, ht]
    have turn : nextTurn s = .run (stageInstr k) s := by
      simp only [nextTurn, hag, threadTurn_waits hh hw, driverTurn_of_inFlight hf hc]
    rw [step, turn]
  · obtain rfl := eq_stageInstr_of_isStage hi
    exact (transmitStage_stageEffect (exec_stageInstr k s ▸ h)).thread ht
  · exact (execRender_of_idle hd hc).trans (if_neg hl)
  · rw [stepRunsTheIssuedCommand s t w rest hag hfree]
    obtain ⟨r, hr⟩ := exec_eq_whenFree (decode_ne_stageInstr w) { s with agenda := rest, issuer := t }
    exact hr.trans (whenFree_busy (inFlight_iff_busy.1 hf))
  · have turn : nextTurn s = .host { s with agenda := rest } := by
      simp only [nextTurn, hag, threadTurn_hung hh, popAgenda_eq hag]
    rw [step, turn]

end Sys2Proof.Machine
end
